-- ==== Sys2Proof/Word.lean ====
section
/-! DEFINITION. The word types of the MC6803E (R3, R81): bytes, 16-bit words and 16-bit addresses. -/

namespace Sys2Proof

/-- A byte, the only unit of a bus access (R90). -/
abbrev Byte := BitVec 8

/-- A 16-bit value: X, SP, PC, D, immediates (R3). -/
abbrev Word := BitVec 16

/-- A 16-bit address; its arithmetic is modulo 2^16 (R83, D3). -/
abbrev Addr := BitVec 16

end Sys2Proof
end

