-- ==== Sys2Proof/Machine/Bits.lean ====
section
/-! DEFINITION. Bit fields, byte order and widening (00_scope 5.1, R22, R80, R130, R131). -/

namespace Sys2Proof

/-- Bits 15..8 of a word. -/
def hi (w : Word) : Byte := w.extractLsb' 8 8

/-- Bits 7..0 of a word. -/
def lo (w : Word) : Byte := w.extractLsb' 0 8

/-- The word h:l, with `h` in bits 15..8 (R80: high byte first). -/
def join (h l : Byte) : Word := h ++ l

/-- zext_16 of a byte: the direct address $00:b (R128), the indexed offset (R130), B in ABX (R162). -/
def zext16 (b : Byte) : Word := b.setWidth 16

/-- sext_16 of a byte: the branch displacement (R131). -/
def sext16 (b : Byte) : Word := b.signExtend 16

/-- The byte whose bits 7..0 are the arguments, in that order. -/
def pack8 (b7 b6 b5 b4 b3 b2 b1 b0 : Bool) : Byte :=
  BitVec.ofBool b7 ++ BitVec.ofBool b6 ++ BitVec.ofBool b5 ++ BitVec.ofBool b4 ++
    BitVec.ofBool b3 ++ BitVec.ofBool b2 ++ BitVec.ofBool b1 ++ BitVec.ofBool b0

/-- The five bits 4..0 of a byte: what port 2 stores (R42, R44). -/
def low5 (v : Byte) : BitVec 5 := v.extractLsb' 0 5

/-- Bits where `mask` is 1 come from `x`, the others from `y`: a port's lines by direction (R43). -/
def select8 (mask x y : Byte) : Byte := (mask &&& x) ||| (~~~mask &&& y)

/-- `select8` for the five lines of port 2 (R44). -/
def select5 (mask x y : BitVec 5) : BitVec 5 := (mask &&& x) ||| (~~~mask &&& y)

end Sys2Proof
end

