-- ==== Sys2Proof/Syntax.lean ====
section
/-! DEFINITION. The instructions: one constructor for each row of spec/opcode_table.json (R124), in opcode order. The
operand of a constructor is the field its format carries (R121): `m` an immediate, `a` a direct (Byte) or extended (Word)
address, `off` an indexed offset, `rel` a branch displacement. -/

namespace Sys2Proof

/-- An instruction of the MC6803E. Every operand value is legal (R341, R342). -/
inductive Instr where
  /-- $01, inherent, R312. -/
  | nop
  /-- $04, inherent, R252. -/
  | lsrd
  /-- $05, inherent, R245. -/
  | asld
  /-- $06, inherent, R336. -/
  | tap
  /-- $07, inherent, R337. -/
  | tpa
  /-- $08, inherent, R154. -/
  | inx
  /-- $09, inherent, R152. -/
  | dex
  /-- $0A, inherent, R332. -/
  | clv
  /-- $0B, inherent, R335. -/
  | sev
  /-- $0C, inherent, R330. -/
  | clc
  /-- $0D, inherent, R333. -/
  | sec
  /-- $0E, inherent, R331. -/
  | cli
  /-- $0F, inherent, R334. -/
  | sei
  /-- $10, inherent, R192. -/
  | sba
  /-- $11, inherent, R193. -/
  | cba
  /-- $16, inherent, R265. -/
  | tab
  /-- $17, inherent, R266. -/
  | tba
  /-- $19, inherent, R213. -/
  | daa
  /-- $1B, inherent, R181. -/
  | aba
  /-- $20, relative, R292. -/
  | bra (rel : Byte)
  /-- $21, relative, R293. -/
  | brn (rel : Byte)
  /-- $22, relative, R294. -/
  | bhi (rel : Byte)
  /-- $23, relative, R295. -/
  | bls (rel : Byte)
  /-- $24, relative, R296. -/
  | bcc (rel : Byte)
  /-- $25, relative, R297. -/
  | bcs (rel : Byte)
  /-- $26, relative, R298. -/
  | bne (rel : Byte)
  /-- $27, relative, R299. -/
  | beq (rel : Byte)
  /-- $28, relative, R300. -/
  | bvc (rel : Byte)
  /-- $29, relative, R301. -/
  | bvs (rel : Byte)
  /-- $2A, relative, R302. -/
  | bpl (rel : Byte)
  /-- $2B, relative, R303. -/
  | bmi (rel : Byte)
  /-- $2C, relative, R304. -/
  | bge (rel : Byte)
  /-- $2D, relative, R305. -/
  | blt (rel : Byte)
  /-- $2E, relative, R306. -/
  | bgt (rel : Byte)
  /-- $2F, relative, R307. -/
  | ble (rel : Byte)
  /-- $30, inherent, R161. -/
  | tsx
  /-- $31, inherent, R155. -/
  | ins
  /-- $32, inherent, R269. -/
  | pula
  /-- $33, inherent, R270. -/
  | pulb
  /-- $34, inherent, R153. -/
  | des
  /-- $35, inherent, R160. -/
  | txs
  /-- $36, inherent, R267. -/
  | psha
  /-- $37, inherent, R268. -/
  | pshb
  /-- $38, inherent, R164. -/
  | pulx
  /-- $39, inherent, R311. -/
  | rts
  /-- $3A, inherent, R162. -/
  | abx
  /-- $3B, inherent, R313. -/
  | rti
  /-- $3C, inherent, R163. -/
  | pshx
  /-- $3D, inherent, R206. -/
  | mul
  /-- $3E, inherent, R318. -/
  | wai
  /-- $3F, inherent, R314. -/
  | swi
  /-- $40, inherent, R198. -/
  | nega
  /-- $43, inherent, R240. -/
  | coma
  /-- $44, inherent, R250. -/
  | lsra
  /-- $46, inherent, R257. -/
  | rora
  /-- $47, inherent, R247. -/
  | asra
  /-- $48, inherent, R243. -/
  | asla
  /-- $49, inherent, R254. -/
  | rola
  /-- $4A, inherent, R204. -/
  | deca
  /-- $4C, inherent, R201. -/
  | inca
  /-- $4D, inherent, R208. -/
  | tsta
  /-- $4E, inherent, R340. -/
  | test4E
  /-- $4F, inherent, R211. -/
  | clra
  /-- $50, inherent, R199. -/
  | negb
  /-- $53, inherent, R241. -/
  | comb
  /-- $54, inherent, R251. -/
  | lsrb
  /-- $56, inherent, R258. -/
  | rorb
  /-- $57, inherent, R248. -/
  | asrb
  /-- $58, inherent, R244. -/
  | aslb
  /-- $59, inherent, R255. -/
  | rolb
  /-- $5A, inherent, R205. -/
  | decb
  /-- $5C, inherent, R202. -/
  | incb
  /-- $5D, inherent, R209. -/
  | tstb
  /-- $5E, inherent, R340. -/
  | test5E
  /-- $5F, inherent, R212. -/
  | clrb
  /-- $60, indexed, R197. -/
  | negIdx (off : Byte)
  /-- $63, indexed, R239. -/
  | comIdx (off : Byte)
  /-- $64, indexed, R249. -/
  | lsrIdx (off : Byte)
  /-- $66, indexed, R256. -/
  | rorIdx (off : Byte)
  /-- $67, indexed, R246. -/
  | asrIdx (off : Byte)
  /-- $68, indexed, R242. -/
  | aslIdx (off : Byte)
  /-- $69, indexed, R253. -/
  | rolIdx (off : Byte)
  /-- $6A, indexed, R203. -/
  | decIdx (off : Byte)
  /-- $6C, indexed, R200. -/
  | incIdx (off : Byte)
  /-- $6D, indexed, R207. -/
  | tstIdx (off : Byte)
  /-- $6E, indexed, R309. -/
  | jmpIdx (off : Byte)
  /-- $6F, indexed, R210. -/
  | clrIdx (off : Byte)
  /-- $70, extended, R197. -/
  | negExt (a : Word)
  /-- $73, extended, R239. -/
  | comExt (a : Word)
  /-- $74, extended, R249. -/
  | lsrExt (a : Word)
  /-- $76, extended, R256. -/
  | rorExt (a : Word)
  /-- $77, extended, R246. -/
  | asrExt (a : Word)
  /-- $78, extended, R242. -/
  | aslExt (a : Word)
  /-- $79, extended, R253. -/
  | rolExt (a : Word)
  /-- $7A, extended, R203. -/
  | decExt (a : Word)
  /-- $7C, extended, R200. -/
  | incExt (a : Word)
  /-- $7D, extended, R207. -/
  | tstExt (a : Word)
  /-- $7E, extended, R309. -/
  | jmpExt (a : Word)
  /-- $7F, extended, R210. -/
  | clrExt (a : Word)
  /-- $80, immediate, R187. -/
  | subaImm (m : Byte)
  /-- $81, immediate, R194. -/
  | cmpaImm (m : Byte)
  /-- $82, immediate, R190. -/
  | sbcaImm (m : Byte)
  /-- $83, immediate, R189. -/
  | subdImm (m : Word)
  /-- $84, immediate, R231. -/
  | andaImm (m : Byte)
  /-- $85, immediate, R233. -/
  | bitaImm (m : Byte)
  /-- $86, immediate, R259. -/
  | ldaaImm (m : Byte)
  /-- $88, immediate, R235. -/
  | eoraImm (m : Byte)
  /-- $89, immediate, R182. -/
  | adcaImm (m : Byte)
  /-- $8A, immediate, R237. -/
  | oraaImm (m : Byte)
  /-- $8B, immediate, R184. -/
  | addaImm (m : Byte)
  /-- $8C, immediate, R151. -/
  | cpxImm (m : Word)
  /-- $8D, relative, R308. -/
  | bsr (rel : Byte)
  /-- $8E, immediate, R157. -/
  | ldsImm (m : Word)
  /-- $90, direct, R187. -/
  | subaDir (a : Byte)
  /-- $91, direct, R194. -/
  | cmpaDir (a : Byte)
  /-- $92, direct, R190. -/
  | sbcaDir (a : Byte)
  /-- $93, direct, R189. -/
  | subdDir (a : Byte)
  /-- $94, direct, R231. -/
  | andaDir (a : Byte)
  /-- $95, direct, R233. -/
  | bitaDir (a : Byte)
  /-- $96, direct, R259. -/
  | ldaaDir (a : Byte)
  /-- $97, direct, R262. -/
  | staaDir (a : Byte)
  /-- $98, direct, R235. -/
  | eoraDir (a : Byte)
  /-- $99, direct, R182. -/
  | adcaDir (a : Byte)
  /-- $9A, direct, R237. -/
  | oraaDir (a : Byte)
  /-- $9B, direct, R184. -/
  | addaDir (a : Byte)
  /-- $9C, direct, R151. -/
  | cpxDir (a : Byte)
  /-- $9D, direct, R310. -/
  | jsrDir (a : Byte)
  /-- $9E, direct, R157. -/
  | ldsDir (a : Byte)
  /-- $9F, direct, R159. -/
  | stsDir (a : Byte)
  /-- $A0, indexed, R187. -/
  | subaIdx (off : Byte)
  /-- $A1, indexed, R194. -/
  | cmpaIdx (off : Byte)
  /-- $A2, indexed, R190. -/
  | sbcaIdx (off : Byte)
  /-- $A3, indexed, R189. -/
  | subdIdx (off : Byte)
  /-- $A4, indexed, R231. -/
  | andaIdx (off : Byte)
  /-- $A5, indexed, R233. -/
  | bitaIdx (off : Byte)
  /-- $A6, indexed, R259. -/
  | ldaaIdx (off : Byte)
  /-- $A7, indexed, R262. -/
  | staaIdx (off : Byte)
  /-- $A8, indexed, R235. -/
  | eoraIdx (off : Byte)
  /-- $A9, indexed, R182. -/
  | adcaIdx (off : Byte)
  /-- $AA, indexed, R237. -/
  | oraaIdx (off : Byte)
  /-- $AB, indexed, R184. -/
  | addaIdx (off : Byte)
  /-- $AC, indexed, R151. -/
  | cpxIdx (off : Byte)
  /-- $AD, indexed, R310. -/
  | jsrIdx (off : Byte)
  /-- $AE, indexed, R157. -/
  | ldsIdx (off : Byte)
  /-- $AF, indexed, R159. -/
  | stsIdx (off : Byte)
  /-- $B0, extended, R187. -/
  | subaExt (a : Word)
  /-- $B1, extended, R194. -/
  | cmpaExt (a : Word)
  /-- $B2, extended, R190. -/
  | sbcaExt (a : Word)
  /-- $B3, extended, R189. -/
  | subdExt (a : Word)
  /-- $B4, extended, R231. -/
  | andaExt (a : Word)
  /-- $B5, extended, R233. -/
  | bitaExt (a : Word)
  /-- $B6, extended, R259. -/
  | ldaaExt (a : Word)
  /-- $B7, extended, R262. -/
  | staaExt (a : Word)
  /-- $B8, extended, R235. -/
  | eoraExt (a : Word)
  /-- $B9, extended, R182. -/
  | adcaExt (a : Word)
  /-- $BA, extended, R237. -/
  | oraaExt (a : Word)
  /-- $BB, extended, R184. -/
  | addaExt (a : Word)
  /-- $BC, extended, R151. -/
  | cpxExt (a : Word)
  /-- $BD, extended, R310. -/
  | jsrExt (a : Word)
  /-- $BE, extended, R157. -/
  | ldsExt (a : Word)
  /-- $BF, extended, R159. -/
  | stsExt (a : Word)
  /-- $C0, immediate, R188. -/
  | subbImm (m : Byte)
  /-- $C1, immediate, R195. -/
  | cmpbImm (m : Byte)
  /-- $C2, immediate, R191. -/
  | sbcbImm (m : Byte)
  /-- $C3, immediate, R186. -/
  | adddImm (m : Word)
  /-- $C4, immediate, R232. -/
  | andbImm (m : Byte)
  /-- $C5, immediate, R234. -/
  | bitbImm (m : Byte)
  /-- $C6, immediate, R260. -/
  | ldabImm (m : Byte)
  /-- $C8, immediate, R236. -/
  | eorbImm (m : Byte)
  /-- $C9, immediate, R183. -/
  | adcbImm (m : Byte)
  /-- $CA, immediate, R238. -/
  | orabImm (m : Byte)
  /-- $CB, immediate, R185. -/
  | addbImm (m : Byte)
  /-- $CC, immediate, R261. -/
  | lddImm (m : Word)
  /-- $CE, immediate, R156. -/
  | ldxImm (m : Word)
  /-- $D0, direct, R188. -/
  | subbDir (a : Byte)
  /-- $D1, direct, R195. -/
  | cmpbDir (a : Byte)
  /-- $D2, direct, R191. -/
  | sbcbDir (a : Byte)
  /-- $D3, direct, R186. -/
  | adddDir (a : Byte)
  /-- $D4, direct, R232. -/
  | andbDir (a : Byte)
  /-- $D5, direct, R234. -/
  | bitbDir (a : Byte)
  /-- $D6, direct, R260. -/
  | ldabDir (a : Byte)
  /-- $D7, direct, R263. -/
  | stabDir (a : Byte)
  /-- $D8, direct, R236. -/
  | eorbDir (a : Byte)
  /-- $D9, direct, R183. -/
  | adcbDir (a : Byte)
  /-- $DA, direct, R238. -/
  | orabDir (a : Byte)
  /-- $DB, direct, R185. -/
  | addbDir (a : Byte)
  /-- $DC, direct, R261. -/
  | lddDir (a : Byte)
  /-- $DD, direct, R264. -/
  | stdDir (a : Byte)
  /-- $DE, direct, R156. -/
  | ldxDir (a : Byte)
  /-- $DF, direct, R158. -/
  | stxDir (a : Byte)
  /-- $E0, indexed, R188. -/
  | subbIdx (off : Byte)
  /-- $E1, indexed, R195. -/
  | cmpbIdx (off : Byte)
  /-- $E2, indexed, R191. -/
  | sbcbIdx (off : Byte)
  /-- $E3, indexed, R186. -/
  | adddIdx (off : Byte)
  /-- $E4, indexed, R232. -/
  | andbIdx (off : Byte)
  /-- $E5, indexed, R234. -/
  | bitbIdx (off : Byte)
  /-- $E6, indexed, R260. -/
  | ldabIdx (off : Byte)
  /-- $E7, indexed, R263. -/
  | stabIdx (off : Byte)
  /-- $E8, indexed, R236. -/
  | eorbIdx (off : Byte)
  /-- $E9, indexed, R183. -/
  | adcbIdx (off : Byte)
  /-- $EA, indexed, R238. -/
  | orabIdx (off : Byte)
  /-- $EB, indexed, R185. -/
  | addbIdx (off : Byte)
  /-- $EC, indexed, R261. -/
  | lddIdx (off : Byte)
  /-- $ED, indexed, R264. -/
  | stdIdx (off : Byte)
  /-- $EE, indexed, R156. -/
  | ldxIdx (off : Byte)
  /-- $EF, indexed, R158. -/
  | stxIdx (off : Byte)
  /-- $F0, extended, R188. -/
  | subbExt (a : Word)
  /-- $F1, extended, R195. -/
  | cmpbExt (a : Word)
  /-- $F2, extended, R191. -/
  | sbcbExt (a : Word)
  /-- $F3, extended, R186. -/
  | adddExt (a : Word)
  /-- $F4, extended, R232. -/
  | andbExt (a : Word)
  /-- $F5, extended, R234. -/
  | bitbExt (a : Word)
  /-- $F6, extended, R260. -/
  | ldabExt (a : Word)
  /-- $F7, extended, R263. -/
  | stabExt (a : Word)
  /-- $F8, extended, R236. -/
  | eorbExt (a : Word)
  /-- $F9, extended, R183. -/
  | adcbExt (a : Word)
  /-- $FA, extended, R238. -/
  | orabExt (a : Word)
  /-- $FB, extended, R185. -/
  | addbExt (a : Word)
  /-- $FC, extended, R261. -/
  | lddExt (a : Word)
  /-- $FD, extended, R264. -/
  | stdExt (a : Word)
  /-- $FE, extended, R156. -/
  | ldxExt (a : Word)
  /-- $FF, extended, R158. -/
  | stxExt (a : Word)
deriving DecidableEq, Repr

end Sys2Proof
end

