-- ==== Sys2Proof/WellFormed.lean ====
section
/-! DEFINITION. What is well formed: a byte string that is exactly one instruction (R120, R121, R125), and an
instruction term. The lengths are written from the regularities of R122, not from the decoder, so that the two can be
held against each other. -/

namespace Sys2Proof

/-- The 34 unassigned first bytes, as R125 lists them. -/
def unassignedOpcodes : List Nat :=
  [0x00, 0x02, 0x03, 0x12, 0x13, 0x14, 0x15, 0x18, 0x1A, 0x1C, 0x1D, 0x1E, 0x1F, 0x41, 0x42, 0x45, 0x4B] ++
  [0x51, 0x52, 0x55, 0x5B, 0x61, 0x62, 0x65, 0x6B, 0x71, 0x72, 0x75, 0x7B, 0x87, 0x8F, 0xC7, 0xCD, 0xCF]

/-- The length of the instruction whose first byte is `n` (R120, R121), by the columns and rows of the map (R122). -/
def opcodeLength (n : Nat) : Option Nat :=
  if unassignedOpcodes.contains n then none
  else if n < 0x20 then some 1
  else if n < 0x30 then some 2
  else if n < 0x60 then some 1
  else if n < 0x70 then some 2
  else if n < 0x80 then some 3
  else if n / 16 % 4 = 0 then some (if n % 16 = 3 ∨ n % 16 = 12 ∨ n % 16 = 14 then 3 else 2)
  else if n / 16 % 4 = 3 then some 3
  else some 2

/-- Exactly the bytes of one instruction: an assigned first byte, and as many bytes as its format has. -/
def wellFormedBytes (bs : List Byte) : Bool :=
  match bs with
  | [] => false
  | op :: rest => opcodeLength op.toNat == some (rest.length + 1)

/-- Every term of `Instr` is well formed: "No valid instruction has a reserved field, a must-be-zero bit or an operand
value that makes it undefined" (R342), and the fields have exactly the widths of their formats (R121). -/
def Instr.wellFormed : Instr → Bool := fun _ => true

end Sys2Proof
end

