-- ==== Sys2Proof/Decode.lean ====
section
/-! DEFINITION. The decoder (R120, R124) and the encoder, both from the map of R124 and the formats of R121. -/

namespace Sys2Proof

/-- What a first byte asks for: nothing more, one operand byte, or two (high byte first, R127, R129). -/
inductive Form where
  | one (i : Instr)
  | two (f : Byte → Instr)
  | three (f : Byte → Byte → Instr)

/-- Why bytes are no instruction. -/
inductive DecodeError where
  /-- The first byte is one of the 34 unassigned ones (R125, R341). -/
  | unassigned (op : Byte)
  /-- The first byte is assigned, and its operand bytes are not all there. -/
  | truncated (op : Byte)
  /-- No byte at all. -/
  | noBytes
deriving DecidableEq, Repr

/-- Column 0_ of the map of R124, by the low nibble. -/
def formColumn0 (n : Nat) : Option Form :=
  match n with
  | 0x1 => some (.one .nop)
  | 0x4 => some (.one .lsrd)
  | 0x5 => some (.one .asld)
  | 0x6 => some (.one .tap)
  | 0x7 => some (.one .tpa)
  | 0x8 => some (.one .inx)
  | 0x9 => some (.one .dex)
  | 0xA => some (.one .clv)
  | 0xB => some (.one .sev)
  | 0xC => some (.one .clc)
  | 0xD => some (.one .sec)
  | 0xE => some (.one .cli)
  | 0xF => some (.one .sei)
  | _ => none

/-- Column 1_ of the map of R124, by the low nibble. -/
def formColumn1 (n : Nat) : Option Form :=
  match n with
  | 0x0 => some (.one .sba)
  | 0x1 => some (.one .cba)
  | 0x6 => some (.one .tab)
  | 0x7 => some (.one .tba)
  | 0x9 => some (.one .daa)
  | 0xB => some (.one .aba)
  | _ => none

/-- Column 2_ of the map of R124, by the low nibble. -/
def formColumn2 (n : Nat) : Option Form :=
  match n with
  | 0x0 => some (.two .bra)
  | 0x1 => some (.two .brn)
  | 0x2 => some (.two .bhi)
  | 0x3 => some (.two .bls)
  | 0x4 => some (.two .bcc)
  | 0x5 => some (.two .bcs)
  | 0x6 => some (.two .bne)
  | 0x7 => some (.two .beq)
  | 0x8 => some (.two .bvc)
  | 0x9 => some (.two .bvs)
  | 0xA => some (.two .bpl)
  | 0xB => some (.two .bmi)
  | 0xC => some (.two .bge)
  | 0xD => some (.two .blt)
  | 0xE => some (.two .bgt)
  | _ => some (.two .ble)

/-- Column 3_ of the map of R124, by the low nibble. -/
def formColumn3 (n : Nat) : Option Form :=
  match n with
  | 0x0 => some (.one .tsx)
  | 0x1 => some (.one .ins)
  | 0x2 => some (.one .pula)
  | 0x3 => some (.one .pulb)
  | 0x4 => some (.one .des)
  | 0x5 => some (.one .txs)
  | 0x6 => some (.one .psha)
  | 0x7 => some (.one .pshb)
  | 0x8 => some (.one .pulx)
  | 0x9 => some (.one .rts)
  | 0xA => some (.one .abx)
  | 0xB => some (.one .rti)
  | 0xC => some (.one .pshx)
  | 0xD => some (.one .mul)
  | 0xE => some (.one .wai)
  | _ => some (.one .swi)

/-- Column 4_ of the map of R124, by the low nibble. -/
def formColumn4 (n : Nat) : Option Form :=
  match n with
  | 0x0 => some (.one .nega)
  | 0x3 => some (.one .coma)
  | 0x4 => some (.one .lsra)
  | 0x6 => some (.one .rora)
  | 0x7 => some (.one .asra)
  | 0x8 => some (.one .asla)
  | 0x9 => some (.one .rola)
  | 0xA => some (.one .deca)
  | 0xC => some (.one .inca)
  | 0xD => some (.one .tsta)
  | 0xE => some (.one .test4E)
  | 0xF => some (.one .clra)
  | _ => none

/-- Column 5_ of the map of R124, by the low nibble. -/
def formColumn5 (n : Nat) : Option Form :=
  match n with
  | 0x0 => some (.one .negb)
  | 0x3 => some (.one .comb)
  | 0x4 => some (.one .lsrb)
  | 0x6 => some (.one .rorb)
  | 0x7 => some (.one .asrb)
  | 0x8 => some (.one .aslb)
  | 0x9 => some (.one .rolb)
  | 0xA => some (.one .decb)
  | 0xC => some (.one .incb)
  | 0xD => some (.one .tstb)
  | 0xE => some (.one .test5E)
  | 0xF => some (.one .clrb)
  | _ => none

/-- Column 6_ of the map of R124, by the low nibble. -/
def formColumn6 (n : Nat) : Option Form :=
  match n with
  | 0x0 => some (.two .negIdx)
  | 0x3 => some (.two .comIdx)
  | 0x4 => some (.two .lsrIdx)
  | 0x6 => some (.two .rorIdx)
  | 0x7 => some (.two .asrIdx)
  | 0x8 => some (.two .aslIdx)
  | 0x9 => some (.two .rolIdx)
  | 0xA => some (.two .decIdx)
  | 0xC => some (.two .incIdx)
  | 0xD => some (.two .tstIdx)
  | 0xE => some (.two .jmpIdx)
  | 0xF => some (.two .clrIdx)
  | _ => none

/-- Column 7_ of the map of R124, by the low nibble. -/
def formColumn7 (n : Nat) : Option Form :=
  match n with
  | 0x0 => some (.three fun h l => .negExt (join h l))
  | 0x3 => some (.three fun h l => .comExt (join h l))
  | 0x4 => some (.three fun h l => .lsrExt (join h l))
  | 0x6 => some (.three fun h l => .rorExt (join h l))
  | 0x7 => some (.three fun h l => .asrExt (join h l))
  | 0x8 => some (.three fun h l => .aslExt (join h l))
  | 0x9 => some (.three fun h l => .rolExt (join h l))
  | 0xA => some (.three fun h l => .decExt (join h l))
  | 0xC => some (.three fun h l => .incExt (join h l))
  | 0xD => some (.three fun h l => .tstExt (join h l))
  | 0xE => some (.three fun h l => .jmpExt (join h l))
  | 0xF => some (.three fun h l => .clrExt (join h l))
  | _ => none

/-- Column 8_ of the map of R124, by the low nibble. -/
def formColumn8 (n : Nat) : Option Form :=
  match n with
  | 0x0 => some (.two .subaImm)
  | 0x1 => some (.two .cmpaImm)
  | 0x2 => some (.two .sbcaImm)
  | 0x3 => some (.three fun h l => .subdImm (join h l))
  | 0x4 => some (.two .andaImm)
  | 0x5 => some (.two .bitaImm)
  | 0x6 => some (.two .ldaaImm)
  | 0x8 => some (.two .eoraImm)
  | 0x9 => some (.two .adcaImm)
  | 0xA => some (.two .oraaImm)
  | 0xB => some (.two .addaImm)
  | 0xC => some (.three fun h l => .cpxImm (join h l))
  | 0xD => some (.two .bsr)
  | 0xE => some (.three fun h l => .ldsImm (join h l))
  | _ => none

/-- Column 9_ of the map of R124, by the low nibble. -/
def formColumn9 (n : Nat) : Option Form :=
  match n with
  | 0x0 => some (.two .subaDir)
  | 0x1 => some (.two .cmpaDir)
  | 0x2 => some (.two .sbcaDir)
  | 0x3 => some (.two .subdDir)
  | 0x4 => some (.two .andaDir)
  | 0x5 => some (.two .bitaDir)
  | 0x6 => some (.two .ldaaDir)
  | 0x7 => some (.two .staaDir)
  | 0x8 => some (.two .eoraDir)
  | 0x9 => some (.two .adcaDir)
  | 0xA => some (.two .oraaDir)
  | 0xB => some (.two .addaDir)
  | 0xC => some (.two .cpxDir)
  | 0xD => some (.two .jsrDir)
  | 0xE => some (.two .ldsDir)
  | _ => some (.two .stsDir)

/-- Column A_ of the map of R124, by the low nibble. -/
def formColumnA (n : Nat) : Option Form :=
  match n with
  | 0x0 => some (.two .subaIdx)
  | 0x1 => some (.two .cmpaIdx)
  | 0x2 => some (.two .sbcaIdx)
  | 0x3 => some (.two .subdIdx)
  | 0x4 => some (.two .andaIdx)
  | 0x5 => some (.two .bitaIdx)
  | 0x6 => some (.two .ldaaIdx)
  | 0x7 => some (.two .staaIdx)
  | 0x8 => some (.two .eoraIdx)
  | 0x9 => some (.two .adcaIdx)
  | 0xA => some (.two .oraaIdx)
  | 0xB => some (.two .addaIdx)
  | 0xC => some (.two .cpxIdx)
  | 0xD => some (.two .jsrIdx)
  | 0xE => some (.two .ldsIdx)
  | _ => some (.two .stsIdx)

/-- Column B_ of the map of R124, by the low nibble. -/
def formColumnB (n : Nat) : Option Form :=
  match n with
  | 0x0 => some (.three fun h l => .subaExt (join h l))
  | 0x1 => some (.three fun h l => .cmpaExt (join h l))
  | 0x2 => some (.three fun h l => .sbcaExt (join h l))
  | 0x3 => some (.three fun h l => .subdExt (join h l))
  | 0x4 => some (.three fun h l => .andaExt (join h l))
  | 0x5 => some (.three fun h l => .bitaExt (join h l))
  | 0x6 => some (.three fun h l => .ldaaExt (join h l))
  | 0x7 => some (.three fun h l => .staaExt (join h l))
  | 0x8 => some (.three fun h l => .eoraExt (join h l))
  | 0x9 => some (.three fun h l => .adcaExt (join h l))
  | 0xA => some (.three fun h l => .oraaExt (join h l))
  | 0xB => some (.three fun h l => .addaExt (join h l))
  | 0xC => some (.three fun h l => .cpxExt (join h l))
  | 0xD => some (.three fun h l => .jsrExt (join h l))
  | 0xE => some (.three fun h l => .ldsExt (join h l))
  | _ => some (.three fun h l => .stsExt (join h l))

/-- Column C_ of the map of R124, by the low nibble. -/
def formColumnC (n : Nat) : Option Form :=
  match n with
  | 0x0 => some (.two .subbImm)
  | 0x1 => some (.two .cmpbImm)
  | 0x2 => some (.two .sbcbImm)
  | 0x3 => some (.three fun h l => .adddImm (join h l))
  | 0x4 => some (.two .andbImm)
  | 0x5 => some (.two .bitbImm)
  | 0x6 => some (.two .ldabImm)
  | 0x8 => some (.two .eorbImm)
  | 0x9 => some (.two .adcbImm)
  | 0xA => some (.two .orabImm)
  | 0xB => some (.two .addbImm)
  | 0xC => some (.three fun h l => .lddImm (join h l))
  | 0xE => some (.three fun h l => .ldxImm (join h l))
  | _ => none

/-- Column D_ of the map of R124, by the low nibble. -/
def formColumnD (n : Nat) : Option Form :=
  match n with
  | 0x0 => some (.two .subbDir)
  | 0x1 => some (.two .cmpbDir)
  | 0x2 => some (.two .sbcbDir)
  | 0x3 => some (.two .adddDir)
  | 0x4 => some (.two .andbDir)
  | 0x5 => some (.two .bitbDir)
  | 0x6 => some (.two .ldabDir)
  | 0x7 => some (.two .stabDir)
  | 0x8 => some (.two .eorbDir)
  | 0x9 => some (.two .adcbDir)
  | 0xA => some (.two .orabDir)
  | 0xB => some (.two .addbDir)
  | 0xC => some (.two .lddDir)
  | 0xD => some (.two .stdDir)
  | 0xE => some (.two .ldxDir)
  | _ => some (.two .stxDir)

/-- Column E_ of the map of R124, by the low nibble. -/
def formColumnE (n : Nat) : Option Form :=
  match n with
  | 0x0 => some (.two .subbIdx)
  | 0x1 => some (.two .cmpbIdx)
  | 0x2 => some (.two .sbcbIdx)
  | 0x3 => some (.two .adddIdx)
  | 0x4 => some (.two .andbIdx)
  | 0x5 => some (.two .bitbIdx)
  | 0x6 => some (.two .ldabIdx)
  | 0x7 => some (.two .stabIdx)
  | 0x8 => some (.two .eorbIdx)
  | 0x9 => some (.two .adcbIdx)
  | 0xA => some (.two .orabIdx)
  | 0xB => some (.two .addbIdx)
  | 0xC => some (.two .lddIdx)
  | 0xD => some (.two .stdIdx)
  | 0xE => some (.two .ldxIdx)
  | _ => some (.two .stxIdx)

/-- Column F_ of the map of R124, by the low nibble. -/
def formColumnF (n : Nat) : Option Form :=
  match n with
  | 0x0 => some (.three fun h l => .subbExt (join h l))
  | 0x1 => some (.three fun h l => .cmpbExt (join h l))
  | 0x2 => some (.three fun h l => .sbcbExt (join h l))
  | 0x3 => some (.three fun h l => .adddExt (join h l))
  | 0x4 => some (.three fun h l => .andbExt (join h l))
  | 0x5 => some (.three fun h l => .bitbExt (join h l))
  | 0x6 => some (.three fun h l => .ldabExt (join h l))
  | 0x7 => some (.three fun h l => .stabExt (join h l))
  | 0x8 => some (.three fun h l => .eorbExt (join h l))
  | 0x9 => some (.three fun h l => .adcbExt (join h l))
  | 0xA => some (.three fun h l => .orabExt (join h l))
  | 0xB => some (.three fun h l => .addbExt (join h l))
  | 0xC => some (.three fun h l => .lddExt (join h l))
  | 0xD => some (.three fun h l => .stdExt (join h l))
  | 0xE => some (.three fun h l => .ldxExt (join h l))
  | _ => some (.three fun h l => .stxExt (join h l))

/-- The map of R124: what the first byte `op` asks for; none for the 34 unassigned ones. -/
def opcodeForm (op : Byte) : Option Form :=
  let lowNibble := op.toNat % 16
  match op.toNat / 16 with
  | 0x0 => formColumn0 lowNibble
  | 0x1 => formColumn1 lowNibble
  | 0x2 => formColumn2 lowNibble
  | 0x3 => formColumn3 lowNibble
  | 0x4 => formColumn4 lowNibble
  | 0x5 => formColumn5 lowNibble
  | 0x6 => formColumn6 lowNibble
  | 0x7 => formColumn7 lowNibble
  | 0x8 => formColumn8 lowNibble
  | 0x9 => formColumn9 lowNibble
  | 0xA => formColumnA lowNibble
  | 0xB => formColumnB lowNibble
  | 0xC => formColumnC lowNibble
  | 0xD => formColumnD lowNibble
  | 0xE => formColumnE lowNibble
  | _ => formColumnF lowNibble

/-- The instruction at the head of a byte string, and the bytes after it; total, and refusing by name. -/
def decode (bs : List Byte) : Except DecodeError (Instr × List Byte) :=
  match bs with
  | [] => .error .noBytes
  | op :: rest =>
    match opcodeForm op with
    | none => .error (.unassigned op)
    | some (.one i) => .ok (i, rest)
    | some (.two f) =>
      match rest with
      | b :: rest' => .ok (f b, rest')
      | [] => .error (.truncated op)
    | some (.three f) =>
      match rest with
      | h :: l :: rest' => .ok (f h l, rest')
      | _ => .error (.truncated op)

/-- The bytes of an instruction, lowest address first (R121). -/
def encode (i : Instr) : List Byte :=
  match i with
  | .nop => [0x01#8]
  | .lsrd => [0x04#8]
  | .asld => [0x05#8]
  | .tap => [0x06#8]
  | .tpa => [0x07#8]
  | .inx => [0x08#8]
  | .dex => [0x09#8]
  | .clv => [0x0A#8]
  | .sev => [0x0B#8]
  | .clc => [0x0C#8]
  | .sec => [0x0D#8]
  | .cli => [0x0E#8]
  | .sei => [0x0F#8]
  | .sba => [0x10#8]
  | .cba => [0x11#8]
  | .tab => [0x16#8]
  | .tba => [0x17#8]
  | .daa => [0x19#8]
  | .aba => [0x1B#8]
  | .bra rel => [0x20#8, rel]
  | .brn rel => [0x21#8, rel]
  | .bhi rel => [0x22#8, rel]
  | .bls rel => [0x23#8, rel]
  | .bcc rel => [0x24#8, rel]
  | .bcs rel => [0x25#8, rel]
  | .bne rel => [0x26#8, rel]
  | .beq rel => [0x27#8, rel]
  | .bvc rel => [0x28#8, rel]
  | .bvs rel => [0x29#8, rel]
  | .bpl rel => [0x2A#8, rel]
  | .bmi rel => [0x2B#8, rel]
  | .bge rel => [0x2C#8, rel]
  | .blt rel => [0x2D#8, rel]
  | .bgt rel => [0x2E#8, rel]
  | .ble rel => [0x2F#8, rel]
  | .tsx => [0x30#8]
  | .ins => [0x31#8]
  | .pula => [0x32#8]
  | .pulb => [0x33#8]
  | .des => [0x34#8]
  | .txs => [0x35#8]
  | .psha => [0x36#8]
  | .pshb => [0x37#8]
  | .pulx => [0x38#8]
  | .rts => [0x39#8]
  | .abx => [0x3A#8]
  | .rti => [0x3B#8]
  | .pshx => [0x3C#8]
  | .mul => [0x3D#8]
  | .wai => [0x3E#8]
  | .swi => [0x3F#8]
  | .nega => [0x40#8]
  | .coma => [0x43#8]
  | .lsra => [0x44#8]
  | .rora => [0x46#8]
  | .asra => [0x47#8]
  | .asla => [0x48#8]
  | .rola => [0x49#8]
  | .deca => [0x4A#8]
  | .inca => [0x4C#8]
  | .tsta => [0x4D#8]
  | .test4E => [0x4E#8]
  | .clra => [0x4F#8]
  | .negb => [0x50#8]
  | .comb => [0x53#8]
  | .lsrb => [0x54#8]
  | .rorb => [0x56#8]
  | .asrb => [0x57#8]
  | .aslb => [0x58#8]
  | .rolb => [0x59#8]
  | .decb => [0x5A#8]
  | .incb => [0x5C#8]
  | .tstb => [0x5D#8]
  | .test5E => [0x5E#8]
  | .clrb => [0x5F#8]
  | .negIdx off => [0x60#8, off]
  | .comIdx off => [0x63#8, off]
  | .lsrIdx off => [0x64#8, off]
  | .rorIdx off => [0x66#8, off]
  | .asrIdx off => [0x67#8, off]
  | .aslIdx off => [0x68#8, off]
  | .rolIdx off => [0x69#8, off]
  | .decIdx off => [0x6A#8, off]
  | .incIdx off => [0x6C#8, off]
  | .tstIdx off => [0x6D#8, off]
  | .jmpIdx off => [0x6E#8, off]
  | .clrIdx off => [0x6F#8, off]
  | .negExt a => [0x70#8, hi a, lo a]
  | .comExt a => [0x73#8, hi a, lo a]
  | .lsrExt a => [0x74#8, hi a, lo a]
  | .rorExt a => [0x76#8, hi a, lo a]
  | .asrExt a => [0x77#8, hi a, lo a]
  | .aslExt a => [0x78#8, hi a, lo a]
  | .rolExt a => [0x79#8, hi a, lo a]
  | .decExt a => [0x7A#8, hi a, lo a]
  | .incExt a => [0x7C#8, hi a, lo a]
  | .tstExt a => [0x7D#8, hi a, lo a]
  | .jmpExt a => [0x7E#8, hi a, lo a]
  | .clrExt a => [0x7F#8, hi a, lo a]
  | .subaImm m => [0x80#8, m]
  | .cmpaImm m => [0x81#8, m]
  | .sbcaImm m => [0x82#8, m]
  | .subdImm m => [0x83#8, hi m, lo m]
  | .andaImm m => [0x84#8, m]
  | .bitaImm m => [0x85#8, m]
  | .ldaaImm m => [0x86#8, m]
  | .eoraImm m => [0x88#8, m]
  | .adcaImm m => [0x89#8, m]
  | .oraaImm m => [0x8A#8, m]
  | .addaImm m => [0x8B#8, m]
  | .cpxImm m => [0x8C#8, hi m, lo m]
  | .bsr rel => [0x8D#8, rel]
  | .ldsImm m => [0x8E#8, hi m, lo m]
  | .subaDir a => [0x90#8, a]
  | .cmpaDir a => [0x91#8, a]
  | .sbcaDir a => [0x92#8, a]
  | .subdDir a => [0x93#8, a]
  | .andaDir a => [0x94#8, a]
  | .bitaDir a => [0x95#8, a]
  | .ldaaDir a => [0x96#8, a]
  | .staaDir a => [0x97#8, a]
  | .eoraDir a => [0x98#8, a]
  | .adcaDir a => [0x99#8, a]
  | .oraaDir a => [0x9A#8, a]
  | .addaDir a => [0x9B#8, a]
  | .cpxDir a => [0x9C#8, a]
  | .jsrDir a => [0x9D#8, a]
  | .ldsDir a => [0x9E#8, a]
  | .stsDir a => [0x9F#8, a]
  | .subaIdx off => [0xA0#8, off]
  | .cmpaIdx off => [0xA1#8, off]
  | .sbcaIdx off => [0xA2#8, off]
  | .subdIdx off => [0xA3#8, off]
  | .andaIdx off => [0xA4#8, off]
  | .bitaIdx off => [0xA5#8, off]
  | .ldaaIdx off => [0xA6#8, off]
  | .staaIdx off => [0xA7#8, off]
  | .eoraIdx off => [0xA8#8, off]
  | .adcaIdx off => [0xA9#8, off]
  | .oraaIdx off => [0xAA#8, off]
  | .addaIdx off => [0xAB#8, off]
  | .cpxIdx off => [0xAC#8, off]
  | .jsrIdx off => [0xAD#8, off]
  | .ldsIdx off => [0xAE#8, off]
  | .stsIdx off => [0xAF#8, off]
  | .subaExt a => [0xB0#8, hi a, lo a]
  | .cmpaExt a => [0xB1#8, hi a, lo a]
  | .sbcaExt a => [0xB2#8, hi a, lo a]
  | .subdExt a => [0xB3#8, hi a, lo a]
  | .andaExt a => [0xB4#8, hi a, lo a]
  | .bitaExt a => [0xB5#8, hi a, lo a]
  | .ldaaExt a => [0xB6#8, hi a, lo a]
  | .staaExt a => [0xB7#8, hi a, lo a]
  | .eoraExt a => [0xB8#8, hi a, lo a]
  | .adcaExt a => [0xB9#8, hi a, lo a]
  | .oraaExt a => [0xBA#8, hi a, lo a]
  | .addaExt a => [0xBB#8, hi a, lo a]
  | .cpxExt a => [0xBC#8, hi a, lo a]
  | .jsrExt a => [0xBD#8, hi a, lo a]
  | .ldsExt a => [0xBE#8, hi a, lo a]
  | .stsExt a => [0xBF#8, hi a, lo a]
  | .subbImm m => [0xC0#8, m]
  | .cmpbImm m => [0xC1#8, m]
  | .sbcbImm m => [0xC2#8, m]
  | .adddImm m => [0xC3#8, hi m, lo m]
  | .andbImm m => [0xC4#8, m]
  | .bitbImm m => [0xC5#8, m]
  | .ldabImm m => [0xC6#8, m]
  | .eorbImm m => [0xC8#8, m]
  | .adcbImm m => [0xC9#8, m]
  | .orabImm m => [0xCA#8, m]
  | .addbImm m => [0xCB#8, m]
  | .lddImm m => [0xCC#8, hi m, lo m]
  | .ldxImm m => [0xCE#8, hi m, lo m]
  | .subbDir a => [0xD0#8, a]
  | .cmpbDir a => [0xD1#8, a]
  | .sbcbDir a => [0xD2#8, a]
  | .adddDir a => [0xD3#8, a]
  | .andbDir a => [0xD4#8, a]
  | .bitbDir a => [0xD5#8, a]
  | .ldabDir a => [0xD6#8, a]
  | .stabDir a => [0xD7#8, a]
  | .eorbDir a => [0xD8#8, a]
  | .adcbDir a => [0xD9#8, a]
  | .orabDir a => [0xDA#8, a]
  | .addbDir a => [0xDB#8, a]
  | .lddDir a => [0xDC#8, a]
  | .stdDir a => [0xDD#8, a]
  | .ldxDir a => [0xDE#8, a]
  | .stxDir a => [0xDF#8, a]
  | .subbIdx off => [0xE0#8, off]
  | .cmpbIdx off => [0xE1#8, off]
  | .sbcbIdx off => [0xE2#8, off]
  | .adddIdx off => [0xE3#8, off]
  | .andbIdx off => [0xE4#8, off]
  | .bitbIdx off => [0xE5#8, off]
  | .ldabIdx off => [0xE6#8, off]
  | .stabIdx off => [0xE7#8, off]
  | .eorbIdx off => [0xE8#8, off]
  | .adcbIdx off => [0xE9#8, off]
  | .orabIdx off => [0xEA#8, off]
  | .addbIdx off => [0xEB#8, off]
  | .lddIdx off => [0xEC#8, off]
  | .stdIdx off => [0xED#8, off]
  | .ldxIdx off => [0xEE#8, off]
  | .stxIdx off => [0xEF#8, off]
  | .subbExt a => [0xF0#8, hi a, lo a]
  | .cmpbExt a => [0xF1#8, hi a, lo a]
  | .sbcbExt a => [0xF2#8, hi a, lo a]
  | .adddExt a => [0xF3#8, hi a, lo a]
  | .andbExt a => [0xF4#8, hi a, lo a]
  | .bitbExt a => [0xF5#8, hi a, lo a]
  | .ldabExt a => [0xF6#8, hi a, lo a]
  | .stabExt a => [0xF7#8, hi a, lo a]
  | .eorbExt a => [0xF8#8, hi a, lo a]
  | .adcbExt a => [0xF9#8, hi a, lo a]
  | .orabExt a => [0xFA#8, hi a, lo a]
  | .addbExt a => [0xFB#8, hi a, lo a]
  | .lddExt a => [0xFC#8, hi a, lo a]
  | .stdExt a => [0xFD#8, hi a, lo a]
  | .ldxExt a => [0xFE#8, hi a, lo a]
  | .stxExt a => [0xFF#8, hi a, lo a]

/-- The three bytes an instruction can have, from a number whose bits 7..0 are the first byte, 15..8 the second and
23..16 the third. -/
def tableBytes (w : Nat) : List Byte :=
  [BitVec.ofNat 8 w, BitVec.ofNat 8 (w / 256), BitVec.ofNat 8 (w / 65536)]

/-- The instruction the decoder reads from the bits `w` of a table row; every bit above `nbits` is 0. -/
def decodeTableWord (nbits w : Nat) : Option Instr :=
  match decode (tableBytes (w % 2 ^ nbits)) with
  | .ok (i, _) => some i
  | .error _ => none

end Sys2Proof
end

