-- ==== Sys2Proof/Config.lean ====
section
/-! DEFINITION. What an implementation or the environment fixes, and the free values: constants without a body, so
that nothing proved about the machine can depend on what they are (log 10). -/

namespace Sys2Proof

/-- The open value a draw stands for. Each names the rule that leaves the value open. -/
inductive FreeUse where
  /-- V after DAA (R213, D15). -/
  | daaOverflow
  /-- A read of $00, $01, $10 or $13 (U7). -/
  | writeOnlyRead
  /-- Bits 5 to 0 of a read of $14 (R56, U7). -/
  | ramControlRead
  /-- The byte on the bus in a discarded read of a reserved address (R59). -/
  | reservedRead
  /-- A, B, X and SP after a RESET of the pin (R442). -/
  | resetA | resetB | resetX | resetSP
  /-- H, N, Z, V and C after a RESET of the pin (R442). -/
  | resetH | resetN | resetZ | resetV | resetC
  /-- Device state that a RESET of the pin leaves unspecified (R442). -/
  | resetP1Out | resetP2Out | resetIcr | resetOlr | resetRdr | resetTdr | resetP20prev | resetIdleOnes
  /-- RDR and RDRF after a framing error with RDRF set, and whether transfer is then blocked (R420, U10). -/
  | framingRdr | framingRdrf | framingBlocked
  /-- RDR, RDRF and ORFE after RE is cleared or RMCR changed inside a received frame (U10). -/
  | cutRdr | cutRdrf | cutOrfe
  /-- The transmitted bits after TE is cleared or RMCR changed inside a sent frame: those still to come, the one being sent and
  its level on the line; and whether the frame goes on (U10). -/
  | cutTxShift | cutTxBit | cutTxLine | cutTxGoesOn
  /-- Whether a write of STBY PWR by an instruction that RESET cuts has happened (R441). -/
  | cutStbyPwr
deriving DecidableEq, Repr

/-- A free bit: the use, and the E cycle it is drawn in. -/
opaque Config.freeBit : FreeUse → Nat → Bool

/-- A free byte: the use, and the E cycle it is drawn in. -/
opaque Config.freeByte : FreeUse → Nat → Byte

/-- A free word: the use, and the E cycle it is drawn in. -/
opaque Config.freeWord : FreeUse → Nat → Word

/-- Whether the byte at an address (second argument) that an instruction cut by RESET was writing holds its new value
(R441, U13); the first argument is the E cycle. -/
opaque Config.freeWritten : Nat → Nat → Bool

/-- The byte of internal RAM at an address (second argument) after its supply was lost (R60, R437). -/
opaque Config.freeCell : Nat → Nat → Byte

/-- CLI_DELAY of R4 and R359: true when one instruction executes after CLI or TAP clears I before a pending maskable
interrupt is taken. -/
opaque Config.cliDelay : Bool

/-- What a read of an external address without memory gives (R88, U11): a draw for each E cycle (first argument) and address
(second argument). -/
opaque Config.freeExternal : Nat → Nat → Byte

/-- The unknown number of E cycles before the ten of the bus sequence of an interrupt entry (R459 (a), G20). -/
opaque Config.irqLeadCycles : Nat

/-- IRQ_ENTRY_CYCLES of R4 and R362: E cycles of a hardware interrupt entry, the ten of the bus sequence of R459 (a)
and those before it. -/
def Config.irqEntryCycles : Nat := Config.irqLeadCycles + 10

/-- RESET_EXIT_CYCLES of R4 and R440: E cycles from the rising edge of RESET to the first opcode fetch. -/
opaque Config.resetExitCycles : Nat

/-- What a byte of memory that nothing has written reads as. DESIGN CHOICE (log 2): unsafe. -/
def Config.unlistedByte : Byte := 0x00#8

end Sys2Proof
end

