-- ==== Sys2Proof/Machine/Memory.lean ====
section
/-! DEFINITION. Byte stores in one canonical form: a list of (address, byte), addresses strictly rising, no entry equal
to what an unlisted address reads as (`Config.unlistedByte`, log 2). -/

namespace Sys2Proof.Machine

/-- A store of bytes by address. -/
abbrev Memory := List Host.Cell

/-- The byte at an address. -/
def Memory.get : Memory → Nat → Byte
  | [], _ => Config.unlistedByte
  | (k, w) :: m, a => if k = a then w else Memory.get m a

/-- The store with the byte at address `a` replaced by `v`. -/
def Memory.set : Memory → Nat → Byte → Memory
  | [], a, v => if v = Config.unlistedByte then [] else [(a, v)]
  | (k, w) :: m, a, v =>
    if a < k then (if v = Config.unlistedByte then (k, w) :: m else (a, v) :: (k, w) :: m)
    else if a = k then (if v = Config.unlistedByte then m else (a, v) :: m)
    else (k, w) :: Memory.set m a v

/-- The canonical form, for addresses from `first` up to `last`. -/
def Memory.wfWithin (first last : Nat) : Memory → Bool
  | [] => true
  | (k, w) :: m => decide (first ≤ k) && decide (k ≤ last) && (w != Config.unlistedByte) && Memory.wfWithin (k + 1) last m

/-- The canonical form over the whole address space. -/
def Memory.wf (m : Memory) : Bool := Memory.wfWithin 0 0xFFFF m

/-- `n` bytes from address `base` on replaced by free bytes drawn in E cycle `c`: a store that lost its supply (log 27). -/
def Memory.scramble (c base : Nat) : Nat → Memory → Memory
  | 0, m => m
  | n + 1, m => Memory.scramble c base n (m.set (base + n) (Config.freeCell c (base + n)))

/-- The store in which each byte at an address of `as` is, by a free choice drawn in E cycle `c`, its new or its old
value, and every other byte its new one (R441). -/
def Memory.eitherOf (c : Nat) (old new : Memory) : List Nat → Memory
  | [] => new
  | a :: as =>
    let m := Memory.eitherOf c old new as
    if Config.freeWritten c a then m else m.set a (old.get a)

end Sys2Proof.Machine
end

