-- ==== Sys2Proof/Machine/State.lean ====
section
/-! DEFINITION. The state of the MC6803E (10_state R20 to R61), its stops, and the state after reset. Plain data. -/

namespace Sys2Proof.Machine

/-- The condition code register (R26). Bits 7 and 6 hold no state (R27). -/
structure Ccr where
  /-- Half carry from bit 3, bit 5. -/
  h : Bool
  /-- Interrupt mask, bit 4 (R29). -/
  i : Bool
  /-- Sign bit of the result, bit 3. -/
  n : Bool
  /-- Zero, bit 2. -/
  z : Bool
  /-- Two's-complement overflow, bit 1. -/
  v : Bool
  /-- Carry or borrow from the MSB, bit 0. -/
  c : Bool
deriving DecidableEq, Repr

/-- The MPU registers (R20 to R25). D is A:B and no register of its own (R22). -/
structure Cpu where
  a : Byte
  b : Byte
  x : Word
  sp : Word
  pc : Word
  ccr : Ccr
deriving DecidableEq, Repr

/-- RunState (R31). -/
inductive RunState where
  /-- Executes instructions. -/
  | running
  /-- Registers stacked by WAI; no instruction executes (R318). -/
  | waiting
  /-- Stopped at an instruction boundary by HALT; BA is high (R372). -/
  | halted
  /-- PC counts, no instruction executes (R340). -/
  | testCount
  /-- RESET is low (R440). -/
  | inReset
deriving DecidableEq, Repr

/-- Ports 1 and 2: direction registers and output latches (R41 to R44). -/
structure Ports where
  p1ddr : Byte
  p1out : Byte
  p2ddr : BitVec 5
  p2out : BitVec 5
deriving DecidableEq, Repr

/-- The programmable timer: TCSR bit by bit (R45), CNT, OCR, ICR (R46 to R48) and its hidden state (R49). -/
structure Timer where
  cnt : Word
  ocr : Word
  icr : Word
  icf : Bool
  ocf : Bool
  tof : Bool
  eici : Bool
  eoci : Bool
  etoi : Bool
  iedg : Bool
  olvl : Bool
  olr : Bool
  ocInhibit : Bool
  icInhibit : Bool
  armTof : Bool
  armOcf : Bool
  armIcf : Bool
  p20prev : Bool
deriving DecidableEq, Repr

/-- The serial interface: RMCR and TRCSR bit by bit (R51, R52), RDR, TDR (R53, R54), its hidden state (R55), and four
fields of the model (log 21, log 22): `txBit` the bit being sent, `txLine` the level of the transmit line, `extCount` and
`p22prev` the divider of the external bit clock. -/
structure Sci where
  cc1 : Bool
  cc0 : Bool
  ss1 : Bool
  ss0 : Bool
  rdrf : Bool
  orfe : Bool
  tdre : Bool
  rie : Bool
  re : Bool
  tie : Bool
  te : Bool
  wu : Bool
  rdr : Byte
  tdr : Byte
  /-- Bits of the frame not yet sent, next in bit 0. -/
  txShift : BitVec 9
  /-- Bit times of the frame in progress that have not ended, the current one among them; 0 when none is (TxBusy). -/
  txBits : Nat
  /-- Preamble ones still to send. -/
  txPreamble : Nat
  txBit : Bool
  txLine : Bool
  rxShift : Byte
  /-- Bits of the frame received so far, the start bit among them; 0 when none is being received. -/
  rxBits : Nat
  /-- Consecutive ones seen, up to 10. -/
  rxIdleOnes : Nat
  rxBlocked : Bool
  armRdrf : Bool
  armOrfe : Bool
  armTdre : Bool
  extCount : Nat
  p22prev : Bool
deriving DecidableEq, Repr

/-- The RAM control register (R56 to R58). -/
structure RamControl where
  stbyPwr : Bool
  rame : Bool
deriving DecidableEq, Repr

/-- Levels of the inputs in one E cycle (R4, R434); true is high. `p1`, `p2` are what drives the port lines from outside;
`standby` and `vcc` say whether the standby and the main supply are up. -/
structure Pins where
  reset : Bool
  nmi : Bool
  irq1 : Bool
  halt : Bool
  p1 : Byte
  p2 : BitVec 5
  standby : Bool
  vcc : Bool
deriving DecidableEq, Repr

/-- What the environment does in one E cycle (log 8): the input levels; the bit the receiver finds, if a bit time of the
receive line ends in it (R417); a write of another bus master to external memory, which happens only while the bus is
available (R374). -/
structure Sample where
  pins : Pins
  /-- The level P22 is driven to between the level before and that of `pins`, if it changes twice in the E cycle: what a clock
  on it between E/2 and E does (R51, R411). -/
  p22Between : Option Bool
  rx : Option Bool
  dma : Option (Addr × Byte)
deriving DecidableEq, Repr

/-- What the platform has at an external address (`ExtMem` of R4, R88; log 9). -/
inductive ExtKind where
  /-- Memory that keeps what is written. -/
  | ram
  /-- Memory whose contents no write of the MPU changes. -/
  | rom
  /-- No memory: a device, or nothing. Each read gives any value; a write changes nothing of the machine (U11). -/
  | other
deriving DecidableEq, Repr

/-- Addresses `first` to `last` of the platform's external map. -/
structure ExtRegion where
  first : Nat
  last : Nat
  kind : ExtKind
deriving DecidableEq, Repr

/-- Why the machine stops with a fault. -/
inductive Fault where
  /-- The byte at PC is one of the 34 unassigned opcodes (R341, U2). Raised by step. Safe: the spec gives no behaviour. -/
  | unassignedOpcode (op : Byte)
deriving DecidableEq, Repr

/-- Why the model gives no next state. -/
inductive Refusal where
  /-- An arm of exec without a meaning. None is left. Safe. -/
  | notModelled (mnemonic : String)
  /-- A program access to the reserved addresses $15 to $1F (R59, U9), by an instruction, a fetch or an interrupt entry.
  Safe: R59 has the model refuse the program. -/
  | reservedAddress (a : Addr)
  /-- RESET released with P21 low: modes 0 and 1 (R5, R444, U1). Raised by step in InReset. Safe. -/
  | undefinedMode
  /-- RESET released after fewer than three E cycles (R443, U4). Raised by step in InReset. Safe. -/
  | shortResetPulse
deriving DecidableEq, Repr

/-- The whole machine and its surroundings. -/
structure State where
  cpu : Cpu
  run : RunState
  nmiPending : Bool
  /-- The instruction that has just ended was a CLI or TAP that cleared I (R359, log 11). -/
  irqHoldoff : Bool
  pc1 : Bool
  pc0 : Bool
  ports : Ports
  timer : Timer
  sci : Sci
  ramcr : RamControl
  /-- The platform's external map, the first region that holds an address deciding; RAM where none does (R4, R88, log 9). -/
  extMap : List ExtRegion
  /-- The contents of external memory, RAM and ROM (R88, log 9). -/
  ext : Memory
  /-- Internal RAM, at its addresses $80 to $FF (R60). -/
  ram : Memory
  pins : Pins
  /-- The environment's schedule, next E cycle first; when it is empty the levels stay (log 8). -/
  inputs : List Sample
  /-- E cycles so far; index of the free values (log 10). -/
  cycles : Nat
  /-- RESET or the supply went low in the current step (log 25). -/
  resetSeen : Bool
  /-- The main supply was down in the current step (log 27). -/
  powerLost : Bool
  /-- The standby supply was down in the current step (log 27). -/
  standbyLost : Bool
  /-- E cycles RESET has been low, up to 3 (log 26). -/
  resetCycles : Nat
deriving DecidableEq, Repr

/-- The timer right after RESET (R61), the unspecified items given. -/
def Timer.afterReset (icr : Word) (olr p20prev : Bool) : Timer :=
  { cnt := 0x0000, ocr := 0xFFFF, icr := icr, icf := false, ocf := false, tof := false, eici := false, eoci := false,
    etoi := false, iedg := false, olvl := false, olr := olr, ocInhibit := false, icInhibit := false, armTof := false,
    armOcf := false, armIcf := false, p20prev := p20prev }

/-- The serial interface right after RESET (R61), the unspecified items given. DESIGN CHOICE (log 5): the shift registers, of
which R55 and R61 say only that they are idle, hold $1FF (TxShift) and $00 (RxShift), which nothing reads. -/
def Sci.afterReset (rdr tdr : Byte) (idleOnes : Nat) (p22 : Bool) : Sci :=
  { cc1 := false, cc0 := false, ss1 := false, ss0 := false, rdrf := false, orfe := false, tdre := true, rie := false,
    re := false, tie := false, te := false, wu := false, rdr := rdr, tdr := tdr, txShift := 0x1FF, txBits := 0,
    txPreamble := 0, txBit := true, txLine := true, rxShift := 0x00, rxBits := 0, rxIdleOnes := idleOnes,
    rxBlocked := false, armRdrf := false, armOrfe := false, armTdre := false, extCount := 0, p22prev := p22 }

/-- The inputs of the model's instance of reset: nothing asserted, mode 2 (P21 high, P20 low), supplies up (log 6). -/
def Pins.atReset : Pins :=
  { reset := true, nmi := true, irq1 := true, halt := true, p1 := 0x00, p2 := 0b00010, standby := true, vcc := true }

/-- The machine right after reset (R30, R61), with nothing listed in memory; the values the spec leaves open are those of
log 2 to 7. -/
def State.reset : State :=
  { cpu :=
      { a := 0x00, b := 0x00, x := 0x0000, sp := 0x0000,
        pc := join (Memory.get [] 0xFFFE) (Memory.get [] 0xFFFF),
        ccr := { h := false, i := true, n := false, z := false, v := false, c := false } }
    run := .running
    nmiPending := false
    irqHoldoff := false
    pc1 := true
    pc0 := false
    ports := { p1ddr := 0x00, p1out := 0x00, p2ddr := 0, p2out := 0 }
    timer := Timer.afterReset 0x0000 false false
    sci := Sci.afterReset 0x00 0x00 0 false
    ramcr := { stbyPwr := false, rame := true }
    extMap := []
    ext := []
    ram := []
    pins := Pins.atReset
    inputs := []
    cycles := 0
    resetSeen := false
    powerLost := false
    standbyLost := false
    resetCycles := 0 }

end Sys2Proof.Machine
end

