-- ==== Sys2Proof/Machine/Devices.lean ====
section
/-! DEFINITION. The timer and the serial interface: what one E cycle does to each, and what an MPU access to their
registers does (60_exceptions R391 to R424). -/

namespace Sys2Proof.Machine

/-! ### The timer -/

/-- TimerStep (R391): count (or preset to $FFF8, when this cycle is an MPU write to $09), overflow, compare, capture. `p20`
is the level the edge detector senses in this cycle (R395). -/
def Timer.step (t : Timer) (preset p20 : Bool) : Timer :=
  let cnt := if preset then 0xFFF8 else t.cnt + 1
  let hit := !t.ocInhibit && cnt == t.ocr
  let edge := p20 != t.p20prev && p20 == t.iedg && !t.icInhibit
  { t with
    cnt := cnt
    tof := t.tof || cnt == 0xFFFF#16
    ocInhibit := false
    ocf := t.ocf || hit
    olr := if hit then t.olvl else t.olr
    icr := if edge then cnt else t.icr
    icf := t.icf || edge
    p20prev := p20 }

/-- TCSR as read at $08 (R45). -/
def Timer.tcsr (t : Timer) : Byte := pack8 t.icf t.ocf t.tof t.eici t.eoci t.etoi t.iedg t.olvl

/-- Reading TCSR arms the clearing of each flag that is set (R398). -/
def Timer.readTcsr (t : Timer) : Timer :=
  { t with armTof := t.armTof || t.tof, armOcf := t.armOcf || t.ocf, armIcf := t.armIcf || t.icf }

/-- Writing TCSR stores bits 4 to 0; nothing else (R397). -/
def Timer.writeTcsr (t : Timer) (v : Byte) : Timer :=
  { t with eici := v.getLsbD 4, eoci := v.getLsbD 3, etoi := v.getLsbD 2, iedg := v.getLsbD 1, olvl := v.getLsbD 0 }

/-- Reading the counter's high byte clears TOF if armed (R393, R398). -/
def Timer.readCounterHigh (t : Timer) : Timer := { t with tof := t.tof && !t.armTof, armTof := false }

/-- Writing either byte of OCR clears OCF if armed (R394, R398). -/
def Timer.clearCompare (t : Timer) : Timer := { t with ocf := t.ocf && !t.armOcf, armOcf := false }

/-- Writing the high byte of OCR also inhibits the compare for one cycle (R394). -/
def Timer.writeOcrHigh (t : Timer) (v : Byte) : Timer :=
  { t.clearCompare with ocr := join v (lo t.ocr), ocInhibit := true }

/-- Writing the low byte of OCR (R394). -/
def Timer.writeOcrLow (t : Timer) (v : Byte) : Timer := { t.clearCompare with ocr := join (hi t.ocr) v }

/-- Reading the high byte of ICR inhibits captures and clears ICF if armed (R396, R398). -/
def Timer.readCaptureHigh (t : Timer) : Timer :=
  { t with icInhibit := true, icf := t.icf && !t.armIcf, armIcf := false }

/-- Reading the low byte of ICR ends the inhibit (R396). -/
def Timer.readCaptureLow (t : Timer) : Timer := { t with icInhibit := false }

/-! ### The serial interface: clock and transmitter -/

/-- The counter bit whose full period is one bit time of the internal clock (R411, Table 6). -/
def Sci.tap (k : Sci) (cnt : Word) : Bool :=
  match k.ss1, k.ss0 with
  | false, false => cnt.getLsbD 3
  | false, true => cnt.getLsbD 6
  | true, false => cnt.getLsbD 9
  | true, true => cnt.getLsbD 11

/-- CC1:CC0 = 11: the bit clock is P22 divided by eight (R51, R411). -/
def Sci.externalClock (k : Sci) : Bool := k.cc1 && k.cc0

/-- CC1:CC0 = 00: the line is bi-phase (R51, R415). -/
def Sci.biPhase (k : Sci) : Bool := !k.cc1 && !k.cc0

/-- A frame is being sent (TxBusy, R55). -/
def Sci.txBusy (k : Sci) : Bool := k.txBits != 0

/-- A new bit time begins with bit `b` on the transmit line: the level in NRZ, a toggle in bi-phase (R415). -/
def Sci.sendBit (k : Sci) (b : Bool) : Sci :=
  { k with txBit := b, txLine := if k.biPhase then !k.txLine else b }

/-- Half a bit time has passed: bi-phase toggles when a one is being sent (R415). DESIGN CHOICE (log 22): the line toggles so
between the setting of TE and the first bit time of the preamble too, which R414 says nothing of. -/
def Sci.halfBit (k : Sci) : Sci :=
  if k.te && k.biPhase && k.txBit then { k with txLine := !k.txLine } else k

/-- A bit clock edge at the transmitter (R413, R414): the next bit of the frame in progress; else a preamble one; else,
with TDRE clear, the start bit of a new frame from TDR, TDRE being set; else a one. Nothing with TE clear. -/
def Sci.transmitEdge (k : Sci) : Sci :=
  if !k.te then k
  else if k.txBits > 1 then
    { k.sendBit (k.txShift.getLsbD 0) with txShift := BitVec.ofBool true ++ k.txShift.extractLsb' 1 8, txBits := k.txBits - 1 }
  else if k.txPreamble > 0 then { k.sendBit true with txBits := 0, txPreamble := k.txPreamble - 1 }
  else if !k.tdre then
    { k.sendBit false with txShift := BitVec.ofBool true ++ k.tdr, txBits := 10, tdre := true }
  else { k.sendBit true with txBits := 0 }

/-! ### The serial interface: receiver -/

/-- A completed frame `(data, stop)` (R418 to R420); `c` is the E cycle, for what a framing error with RDRF set leaves
unspecified (U10). -/
def Sci.receiveFrame (k : Sci) (c : Nat) (data : Byte) (stop : Bool) : Sci :=
  if k.wu || k.rxBlocked then k
  else if stop then (if k.rdrf then { k with orfe := true } else { k with rdr := data, rdrf := true })
  else if k.rdrf then
    { k with
      orfe := true
      rdr := Config.freeByte .framingRdr c
      rdrf := Config.freeBit .framingRdrf c
      rxBlocked := Config.freeBit .framingBlocked c }
  else { k with orfe := true, rdr := data, rxBlocked := true }

/-- The receiver takes the bit `b` into the frame: a start bit, eight data bits with bit 0 first, a stop bit (R417). -/
def Sci.receiveBit (k : Sci) (c : Nat) (b : Bool) : Sci :=
  if !k.re then k
  else if k.rxBits = 0 then { k with rxBits := if b then 0 else 1 }
  else if k.rxBits ≤ 8 then
    { k with rxShift := BitVec.ofBool b ++ k.rxShift.extractLsb' 1 7, rxBits := k.rxBits + 1 }
  else { k with rxBits := 0 }.receiveFrame c k.rxShift b

/-- Counting the ones on the receive line; the tenth in a row clears WU (R418). -/
def Sci.countOnes (k : Sci) (b : Bool) : Sci :=
  if !b then { k with rxIdleOnes := 0 }
  else if k.rxIdleOnes < 9 then { k with rxIdleOnes := k.rxIdleOnes + 1 }
  else { k with rxIdleOnes := 10, wu := false }

/-- A bit time of the receive line ends with the bit `b`. -/
def Sci.lineBit (k : Sci) (c : Nat) (b : Bool) : Sci := (k.receiveBit c b).countOnes b

/-! ### One E cycle of the serial interface -/

/-- The internal bit clock: an edge where the tap falls, the half of a bit where it rises (log 21). -/
def Sci.internalTick (k : Sci) (before after : Word) : Sci :=
  if k.tap before && !k.tap after then k.transmitEdge
  else if !k.tap before && k.tap after then k.halfBit
  else k

/-- P22 rises in an E cycle that it ends at `p22`: from the level before, or by way of the level `between`. With at most one
level between it rises at most once, so its clock is not greater than E (R51, R411). -/
def Sci.p22Rises (k : Sci) (between : Option Bool) (p22 : Bool) : Bool :=
  match between with
  | none => !k.p22prev && p22
  | some b => (!k.p22prev && b) || (!b && p22)

/-- The external bit clock: an edge at every eighth rise of P22 (R411; which of the eight is log 21). -/
def Sci.externalTick (k : Sci) (between : Option Bool) (p22 : Bool) : Sci :=
  if k.p22Rises between p22 then
    (if k.extCount ≥ 7 then { k.transmitEdge with extCount := 0 } else { k with extCount := k.extCount + 1 })
  else k

/-- One E cycle: `before` and `after` are the counter around it, `p22` the level of P22 and `between` the one it passes on the
way there, `rx` the bit found on the receive line if a bit time of it ends here, `c` the E cycle. -/
def Sci.step (k : Sci) (before after : Word) (between : Option Bool) (p22 : Bool) (rx : Option Bool) (c : Nat) : Sci :=
  let k1 := if k.externalClock then k.externalTick between p22 else k.internalTick before after
  let k2 := { k1 with p22prev := p22 }
  match rx with
  | none => k2
  | some b => k2.lineBit c b

/-! ### MPU accesses to the serial interface -/

/-- TRCSR as read at $11 (R52). -/
def Sci.trcsr (k : Sci) : Byte := pack8 k.rdrf k.orfe k.tdre k.rie k.re k.tie k.te k.wu

/-- Reading TRCSR arms the clearing of each flag that is set (R416, R422). -/
def Sci.readTrcsr (k : Sci) : Sci :=
  { k with armRdrf := k.armRdrf || k.rdrf, armOrfe := k.armOrfe || k.orfe, armTdre := k.armTdre || k.tdre }

/-- Reading RDR clears RDRF and ORFE if armed, and with ORFE ends the blocking (R422). -/
def Sci.readRdr (k : Sci) : Sci :=
  { k with
    rdrf := k.rdrf && !k.armRdrf, armRdrf := false
    orfe := k.orfe && !k.armOrfe, rxBlocked := k.rxBlocked && !k.armOrfe, armOrfe := false }

/-- Writing TDR stores the byte and clears TDRE if armed (R416). -/
def Sci.writeTdr (k : Sci) (v : Byte) : Sci := { k with tdr := v, tdre := k.tdre && !k.armTdre, armTdre := false }

/-- What is left of a frame being received when it is cut: RDR, RDRF and ORFE unspecified (U10); transfer stays blocked only
while ORFE is set (R420, R422). -/
def Sci.cutReceive (k : Sci) (c : Nat) : Sci :=
  { k with
    rdr := Config.freeByte .cutRdr c
    rdrf := Config.freeBit .cutRdrf c
    orfe := Config.freeBit .cutOrfe c
    rxBlocked := k.rxBlocked && Config.freeBit .cutOrfe c
    rxBits := 0 }

/-- What is left of a frame being sent when it is cut: its bits unspecified, and whether it goes on (R413, U10). DESIGN CHOICE
(log 24): the bit being sent is one of them, so the level on the line is free too until the next bit clock edge. -/
def Sci.cutTransmit (k : Sci) (c : Nat) : Sci :=
  { k with
    txShift := (Config.freeWord .cutTxShift c).extractLsb' 0 9
    txBit := Config.freeBit .cutTxBit c
    txLine := Config.freeBit .cutTxLine c
    txBits := if Config.freeBit .cutTxGoesOn c then k.txBits else 0 }

/-- Writing RMCR stores bits 3 to 0 (R424); a change while a frame is in progress cuts it (U10). -/
def Sci.writeRmcr (k : Sci) (c : Nat) (v : Byte) : Sci :=
  let new := { k with cc1 := v.getLsbD 3, cc0 := v.getLsbD 2, ss1 := v.getLsbD 1, ss0 := v.getLsbD 0 }
  if new = k then k
  else
    let k1 := if k.txBusy then new.cutTransmit c else new
    if k.rxBits = 0 then k1 else k1.cutReceive c

/-- Writing TRCSR stores bits 4 to 0, WU only if the line is not idle (R418, R424); TE going from 0 to 1 starts the preamble
(R414); TE or RE going from 1 to 0 inside a frame cuts it (U10). -/
def Sci.writeTrcsr (k : Sci) (c : Nat) (v : Byte) : Sci :=
  let new :=
    { k with
      rie := v.getLsbD 4, re := v.getLsbD 3, tie := v.getLsbD 2, te := v.getLsbD 1
      wu := v.getLsbD 0 && decide (k.rxIdleOnes < 10)
      txPreamble := if !k.te && v.getLsbD 1 then 9 else k.txPreamble }
  let k1 := if k.te && !new.te && k.txBusy then new.cutTransmit c else new
  if k.re && !new.re && k.rxBits != 0 then k1.cutReceive c else k1

/-- The bits of P2DDR as the serial interface forces them (R412). -/
def Sci.forceDdr (k : Sci) (ddr : BitVec 5) : BitVec 5 :=
  let d1 := if k.cc1 then (if k.cc0 then ddr &&& 0b11011 else ddr ||| 0b00100) else ddr
  let d2 := if k.te then d1 ||| 0b10000 else d1
  if k.re then d2 &&& 0b10111 else d2

end Sys2Proof.Machine
end

