-- ==== Sys2Proof/Machine/Bus.lean ====
section
/-! DEFINITION. The E cycle and the bus: the address decoder (R84), the internal registers (R40 to R59, R91, R92), the
passing of one E cycle (R391, log 1), and one bus access per E cycle (R94). -/

namespace Sys2Proof.Machine

/-! ### Port lines -/

/-- The levels on P17 to P10: the latch where the line is an output, the outside level where it is an input (R431). -/
def State.p1Lines (s : State) : Byte := select8 s.ports.p1ddr s.ports.p1out s.pins.p1

/-- The internal bit rate clock as it appears at P22 (R412, log 21). -/
def State.bitClock (s : State) : Bool := s.sci.tap s.timer.cnt

/-- What port 2 drives on P24 to P20 where they are outputs (R432): the transmitter on P24 while TE is set, the bit clock
on P22 while CC1:CC0 = 10, the output level register on P21, the latch elsewhere. -/
def State.p2Driven (s : State) : BitVec 5 :=
  BitVec.ofBool (if s.sci.te then s.sci.txLine else s.ports.p2out.getLsbD 4) ++
    BitVec.ofBool (s.ports.p2out.getLsbD 3) ++
    BitVec.ofBool (if s.sci.cc1 && !s.sci.cc0 then s.bitClock else s.ports.p2out.getLsbD 2) ++
    BitVec.ofBool s.timer.olr ++ BitVec.ofBool (s.ports.p2out.getLsbD 0)

/-- The levels on P24 to P20 (R432). -/
def State.p2Lines (s : State) : BitVec 5 := select5 s.ports.p2ddr s.p2Driven s.pins.p2

/-- BA (R372, R373): high while halted, and while waiting with HALT low. DESIGN CHOICE (log 28): low while waiting with HALT
high, where N10 and N26 leave open whether BA signals the wait. -/
def State.ba (s : State) : Bool := s.run == .halted || (s.run == .waiting && !s.pins.halt)

/-! ### One E cycle -/

/-- The environment's entry for the next E cycle, if the schedule has one. -/
def State.nextSample (s : State) : Option Sample := s.inputs.head?

/-- The input levels of the next E cycle (log 8). -/
def State.nextPins (s : State) : Pins :=
  match s.nextSample with
  | none => s.pins
  | some x => x.pins

/-- The next entry of the schedule is taken: new levels; an NMI falling edge is remembered (R32, R360); RESET or a supply
going low is noted for the end of the step; loss of the standby supply clears STBY PWR (R57). DESIGN CHOICE (log 27): RAME, on
the same supply, stays as it is where no reset comes with the loss, and a write of STBY PWR in the same cycle comes after the
clearing and wins. -/
def State.sample (s : State) : State :=
  let p := s.nextPins
  { s with
    pins := p
    inputs := s.inputs.tail
    cycles := s.cycles + 1
    nmiPending := s.nmiPending || (s.pins.nmi && !p.nmi)
    resetSeen := s.resetSeen || !p.reset || !p.vcc
    powerLost := s.powerLost || !p.vcc
    standbyLost := s.standbyLost || !p.standby
    ramcr := { s.ramcr with stbyPwr := s.ramcr.stbyPwr && p.standby } }

/-- The bit the receiver finds in the next E cycle, if any (R417). -/
def State.nextRx (s : State) : Option Bool :=
  match s.nextSample with
  | none => none
  | some x => x.rx

/-- The level P22 passes in the next E cycle on its way to the one it ends at, if any (R411). -/
def State.nextP22Between (s : State) : Option Bool :=
  match s.nextSample with
  | none => none
  | some x => x.p22Between

/-- One E cycle: the environment, then the timer (R391), then the serial interface. `preset` when the MPU writes $09 in it.
Once RESET has been seen in this step no further time passes in it (log 25). -/
def State.tickWith (preset : Bool) (s : State) : State :=
  if s.resetSeen then s
  else
    let s1 := s.sample
    let t := s1.timer.step preset (s1.p2Lines.getLsbD 0)
    { s1 with
      timer := t
      sci := s1.sci.step s.timer.cnt t.cnt s.nextP22Between (s1.p2Lines.getLsbD 2) s.nextRx s1.cycles }

/-- One E cycle without a write to $09. -/
def State.tick (s : State) : State := s.tickWith false

/-- `n` E cycles. -/
def State.ticks : Nat → State → State
  | 0, s => s
  | n + 1, s => State.ticks n s.tick

/-! ### The address decoder -/

/-- Where an access goes (R84). -/
inductive Region where
  | register
  | external
  | reserved
  | ram
deriving DecidableEq, Repr

/-- MODE, from the latched bits (R33). -/
def State.mode (s : State) : Nat := 2 * s.pc1.toNat + s.pc0.toNat

/-- The internal RAM is in the map (R58, R438). -/
def State.ramMapped (s : State) : Bool := s.mode == 2 && s.ramcr.rame

/-- A reserved address, $15 to $1F (R59). -/
def isReserved (a : Addr) : Bool := decide (0x15 ≤ a.toNat) && decide (a.toNat ≤ 0x1F)

/-- Decode(addr) of R84, in its order. -/
def State.region (s : State) (a : Addr) : Region :=
  let n := a.toNat
  if n ≤ 0x03 ∨ (0x08 ≤ n ∧ n ≤ 0x0E) ∨ (0x10 ≤ n ∧ n ≤ 0x14) then .register
  else if n ≤ 0x0F then .external
  else if isReserved a then .reserved
  else if 0x80 ≤ n ∧ n ≤ 0xFF ∧ s.ramMapped then .ram
  else .external

/-! ### External memory (R88) -/

/-- The kind of the first region of a map that holds an address. -/
def extKindIn (m : List ExtRegion) (n : Nat) : ExtKind :=
  match m with
  | [] => .ram
  | r :: rest => if r.first ≤ n ∧ n ≤ r.last then r.kind else extKindIn rest n

/-- What the platform has at an external address (log 9). -/
def State.extKind (s : State) (a : Addr) : ExtKind := extKindIn s.extMap a.toNat

/-- ExtRead(a) in this E cycle: the byte held, or any value where there is no memory (R88, U11). -/
def State.extRead (s : State) (a : Addr) : Byte :=
  match s.extKind a with
  | .ram => s.ext.get a.toNat
  | .rom => s.ext.get a.toNat
  | .other => Config.freeExternal s.cycles a.toNat

/-- ExtWrite(a, v): RAM keeps the byte; nothing of the machine changes elsewhere (R88). -/
def State.extWrite (s : State) (a : Addr) (v : Byte) : State :=
  match s.extKind a with
  | .ram => { s with ext := s.ext.set a.toNat v }
  | .rom => s
  | .other => s

/-! ### The internal registers -/

/-- What a read of P2DR returns: 0, PC1, PC0, and the five lines, the latch where a line is an output (R44, D8). -/
def State.p2dr (s : State) : Byte :=
  BitVec.ofBool false ++ BitVec.ofBool s.pc1 ++ BitVec.ofBool s.pc0 ++ select5 s.ports.p2ddr s.ports.p2out s.pins.p2

/-- What a read of RAMCR returns: STBY PWR, RAME, six bits that are any value (R56, U7). -/
def State.ramcrRead (s : State) : Byte :=
  BitVec.ofBool s.ramcr.stbyPwr ++ BitVec.ofBool s.ramcr.rame ++
    (Config.freeByte .ramControlRead s.cycles).extractLsb' 0 6

/-- What a read of the internal register at `a` returns in this E cycle (R40 to R58). -/
def State.registerValue (s : State) (a : Addr) : Byte :=
  match a.toNat with
  | 0x02 => select8 s.ports.p1ddr s.ports.p1out s.pins.p1
  | 0x03 => s.p2dr
  | 0x08 => s.timer.tcsr
  | 0x09 => hi s.timer.cnt
  | 0x0A => lo s.timer.cnt
  | 0x0B => hi s.timer.ocr
  | 0x0C => lo s.timer.ocr
  | 0x0D => hi s.timer.icr
  | 0x0E => lo s.timer.icr
  | 0x11 => s.sci.trcsr
  | 0x12 => s.sci.rdr
  | 0x14 => s.ramcrRead
  | _ => Config.freeByte .writeOnlyRead s.cycles

/-- The side effect of a read of the internal register at `a` (R91). -/
def State.registerReadEffect (s : State) (a : Addr) : State :=
  match a.toNat with
  | 0x08 => { s with timer := s.timer.readTcsr }
  | 0x09 => { s with timer := s.timer.readCounterHigh }
  | 0x0D => { s with timer := s.timer.readCaptureHigh }
  | 0x0E => { s with timer := s.timer.readCaptureLow }
  | 0x11 => { s with sci := s.sci.readTrcsr }
  | 0x12 => { s with sci := s.sci.readRdr }
  | _ => s

/-- The serial interface changes, and forces the bits of P2DDR it now controls (R412). -/
def State.withSci (s : State) (k : Sci) : State :=
  { s with sci := k, ports := { s.ports with p2ddr := k.forceDdr s.ports.p2ddr } }

/-- A write of `v` to the internal register at `a` (R92). The counter's preset by $09 is in the E cycle itself
(`State.tickWith`). $0A, $0D, $0E and $12 are read-only: no effect (U8, log 15). -/
def State.registerWrite (s : State) (a : Addr) (v : Byte) : State :=
  match a.toNat with
  | 0x00 => { s with ports := { s.ports with p1ddr := v } }
  | 0x01 => { s with ports := { s.ports with p2ddr := s.sci.forceDdr (low5 v) } }
  | 0x02 => { s with ports := { s.ports with p1out := v } }
  | 0x03 => { s with ports := { s.ports with p2out := low5 v } }
  | 0x08 => { s with timer := s.timer.writeTcsr v }
  | 0x0B => { s with timer := s.timer.writeOcrHigh v }
  | 0x0C => { s with timer := s.timer.writeOcrLow v }
  | 0x10 => s.withSci (s.sci.writeRmcr s.cycles v)
  | 0x11 => s.withSci (s.sci.writeTrcsr s.cycles v)
  | 0x13 => { s with sci := s.sci.writeTdr v }
  | 0x14 => { s with ramcr := { stbyPwr := v.getLsbD 7, rame := v.getLsbD 6 } }
  | _ => s

/-! ### Bus accesses, one E cycle each -/

/-- The byte an access to `a` finds in this E cycle (R84, R88). -/
def State.valueAt (s : State) (a : Addr) : Byte :=
  match s.region a with
  | .register => s.registerValue a
  | .external => s.extRead a
  | .reserved => Config.freeByte .reservedRead s.cycles
  | .ram => s.ram.get a.toNat

/-- The side effect of a read of `a` (R91): internal registers only. -/
def State.readEffect (s : State) (a : Addr) : State :=
  match s.region a with
  | .register => s.registerReadEffect a
  | _ => s

/-- The store of `v` at `a` in this E cycle (R84, R92). DESIGN CHOICE (log 9): external memory behind an internal address
does not see the store; R89 leaves open whether the external bus shows it. -/
def State.storeAt (s : State) (a : Addr) (v : Byte) : State :=
  match s.region a with
  | .register => s.registerWrite a v
  | .external => s.extWrite a v
  | .reserved => s
  | .ram => { s with ram := s.ram.set a.toNat v }

/-- MemRead(a, 1) in an E cycle of its own (R6): the byte, and the state after its side effect. -/
def State.busRead (a : Addr) (s : State) : Byte × State := (s.tick.valueAt a, s.tick.readEffect a)

/-- A discarded read of `a` (R96): the E cycle and the side effect. -/
def State.busDiscard (a : Addr) (s : State) : State := s.tick.readEffect a

/-- An E cycle with $FFFF on the address bus, a discarded read of external memory (R459 (d)). -/
def State.busIdle (s : State) : State := s.tick

/-- MemWrite(a, 1, v) in an E cycle of its own (R6). -/
def State.busWrite (a : Addr) (v : Byte) (s : State) : State := (s.tickWith (a == 0x0009#16)).storeAt a v

/-- MemRead(a, 2) (R6, R80, R90): the high byte at `a` first, then the low byte at `a + 1`. -/
def State.busRead16 (a : Addr) (s : State) : Word × State :=
  let h := s.busRead a
  let l := h.2.busRead (a + 1)
  (join h.1 l.1, l.2)

/-- MemWrite(a, 2, v) (R6, R80, R90): the high byte to `a` first, then the low byte to `a + 1`. -/
def State.busWrite16 (a : Addr) (v : Word) (s : State) : State := (s.busWrite a (hi v)).busWrite (a + 1) (lo v)

end Sys2Proof.Machine
end

