-- ==== Sys2Proof/Machine/Flags.lean ====
section
/-! DEFINITION. Every flag computation of the spec: the helpers R9 to R12, and the operations of the instruction rules as
functions from the condition codes and the operands to the result and the new condition codes. A flag a rule does not
write is passed through. -/

namespace Sys2Proof.Machine

/-- The CCR read as a byte: 1 1 H I N Z V C (R27). -/
def Ccr.toByte (f : Ccr) : Byte := pack8 true true f.h f.i f.n f.z f.v f.c

/-- The CCR written from a byte; bits 7 and 6 are ignored (R27). -/
def Ccr.ofByte (v : Byte) : Ccr :=
  { h := v.getLsbD 5, i := v.getLsbD 4, n := v.getLsbD 3, z := v.getLsbD 2, v := v.getLsbD 1, c := v.getLsbD 0 }

/-- A carry or borrow in, as a number of `w` bits. -/
def carryIn (w : Nat) (c : Bool) : BitVec w := (BitVec.ofBool c).setWidth w

/-- NZ8 (R12). -/
def nz8 (f : Ccr) (r : Byte) : Ccr := { f with n := r.msb, z := r == 0x00#8 }

/-- NZ16 (R12). -/
def nz16 (f : Ccr) (r : Word) : Ccr := { f with n := r.msb, z := r == 0x0000#16 }

/-- Add8 (R9), all five arithmetic flags written. -/
def add8 (f : Ccr) (a b : Byte) (cin : Bool) : Byte × Ccr :=
  let s : BitVec 9 := a.setWidth 9 + b.setWidth 9 + carryIn 9 cin
  let r : Byte := s.setWidth 8
  let half : BitVec 5 := (a.extractLsb' 0 4).setWidth 5 + (b.extractLsb' 0 4).setWidth 5 + carryIn 5 cin
  (r, { nz8 f r with h := half.getLsbD 4, v := a.msb == b.msb && r.msb != a.msb, c := s.getLsbD 8 })

/-- Sub8 (R10), N Z V C written, H untouched; C is the borrow. -/
def sub8 (f : Ccr) (a b : Byte) (bin : Bool) : Byte × Ccr :=
  let r : Byte := a - b - carryIn 8 bin
  (r, { nz8 f r with
        v := a.msb != b.msb && r.msb != a.msb
        c := decide (a.setWidth 9 < b.setWidth 9 + carryIn 9 bin) })

/-- Add16 (R11), N Z V C written. -/
def add16 (f : Ccr) (a b : Word) : Word × Ccr :=
  let s : BitVec 17 := a.setWidth 17 + b.setWidth 17
  let r : Word := s.setWidth 16
  (r, { nz16 f r with v := a.msb == b.msb && r.msb != a.msb, c := s.getLsbD 16 })

/-- Sub16 (R11), N Z V C written. -/
def sub16 (f : Ccr) (a b : Word) : Word × Ccr :=
  let r : Word := a - b
  (r, { nz16 f r with v := a.msb != b.msb && r.msb != a.msb, c := decide (a < b) })

/-- ADD (R181, R184, R185): the carry is no input. -/
def addOp (f : Ccr) (a m : Byte) : Byte × Ccr := add8 f a m false

/-- ADC (R182, R183). -/
def adcOp (f : Ccr) (a m : Byte) : Byte × Ccr := add8 f a m f.c

/-- SUB and CMP (R187, R188, R192 to R195). -/
def subOp (f : Ccr) (a m : Byte) : Byte × Ccr := sub8 f a m false

/-- SBC (R190, R191). -/
def sbcOp (f : Ccr) (a m : Byte) : Byte × Ccr := sub8 f a m f.c

/-- AND and BIT (R231 to R234). -/
def andOp (f : Ccr) (a m : Byte) : Byte × Ccr := (a &&& m, { nz8 f (a &&& m) with v := false })

/-- EOR (R235, R236). -/
def eorOp (f : Ccr) (a m : Byte) : Byte × Ccr := (a ^^^ m, { nz8 f (a ^^^ m) with v := false })

/-- ORA (R237, R238). -/
def oraOp (f : Ccr) (a m : Byte) : Byte × Ccr := (a ||| m, { nz8 f (a ||| m) with v := false })

/-- LDA (R259, R260): the old accumulator is no input. -/
def ldaOp (f : Ccr) (_ m : Byte) : Byte × Ccr := (m, { nz8 f m with v := false })

/-- The flags of an 8-bit load, store or transfer (R230). -/
def moveFlags8 (f : Ccr) (r : Byte) : Ccr := { nz8 f r with v := false }

/-- The flags of a 16-bit load or store (R156 to R159, R261, R264). -/
def moveFlags16 (f : Ccr) (r : Word) : Ccr := { nz16 f r with v := false }

/-- NEG (R197 to R199). -/
def negOp (f : Ccr) (m : Byte) : Byte × Ccr := sub8 f 0x00 m false

/-- COM (R239 to R241). -/
def comOp (f : Ccr) (m : Byte) : Byte × Ccr := (~~~m, { nz8 f (~~~m) with v := false, c := true })

/-- INC (R200 to R202). -/
def incOp (f : Ccr) (m : Byte) : Byte × Ccr := (m + 1, { nz8 f (m + 1) with v := m == 0x7F#8 })

/-- DEC (R203 to R205). -/
def decOp (f : Ccr) (m : Byte) : Byte × Ccr := (m - 1, { nz8 f (m - 1) with v := m == 0x80#8 })

/-- CLR (R210 to R212). -/
def clrOp (f : Ccr) (_ : Byte) : Byte × Ccr := (0x00, { f with n := false, z := true, v := false, c := false })

/-- The flags of TST (R207 to R209). -/
def tstFlags (f : Ccr) (m : Byte) : Ccr := { nz8 f m with v := false, c := false }

/-- The flags of an 8-bit shift or rotate with the bit `out` shifted out: V is N xor C, both new (R230). -/
def shiftFlags8 (f : Ccr) (r : Byte) (out : Bool) : Ccr := { nz8 f r with v := r.msb ^^ out, c := out }

/-- The flags of a 16-bit shift (R245, R252). -/
def shiftFlags16 (f : Ccr) (r : Word) (out : Bool) : Ccr := { nz16 f r with v := r.msb ^^ out, c := out }

/-- ASL (R242 to R244). -/
def aslOp (f : Ccr) (m : Byte) : Byte × Ccr := (m <<< 1, shiftFlags8 f (m <<< 1) m.msb)

/-- ASR (R246 to R248): bit 7 is kept. -/
def asrOp (f : Ccr) (m : Byte) : Byte × Ccr :=
  let r : Byte := BitVec.ofBool m.msb ++ m.extractLsb' 1 7
  (r, shiftFlags8 f r (m.getLsbD 0))

/-- LSR (R249 to R251). -/
def lsrOp (f : Ccr) (m : Byte) : Byte × Ccr := (m >>> 1, shiftFlags8 f (m >>> 1) (m.getLsbD 0))

/-- ROL (R253 to R255): the old carry enters bit 0. -/
def rolOp (f : Ccr) (m : Byte) : Byte × Ccr :=
  let r : Byte := m.extractLsb' 0 7 ++ BitVec.ofBool f.c
  (r, shiftFlags8 f r m.msb)

/-- ROR (R256 to R258): the old carry enters bit 7. -/
def rorOp (f : Ccr) (m : Byte) : Byte × Ccr :=
  let r : Byte := BitVec.ofBool f.c ++ m.extractLsb' 1 7
  (r, shiftFlags8 f r (m.getLsbD 0))

/-- ASLD (R245). -/
def asldOp (f : Ccr) (d : Word) : Word × Ccr := (d <<< 1, shiftFlags16 f (d <<< 1) d.msb)

/-- LSRD (R252). -/
def lsrdOp (f : Ccr) (d : Word) : Word × Ccr := (d >>> 1, shiftFlags16 f (d >>> 1) (d.getLsbD 0))

/-- MUL (R206): the 16-bit product; C is its bit 7, no other flag is written. -/
def mulOp (f : Ccr) (a b : Byte) : Word × Ccr :=
  let p := zext16 a * zext16 b
  (p, { f with c := p.getLsbD 7 })

/-- The correction DAA adds to A (R213). -/
def daaCorrection (f : Ccr) (a : Byte) : Byte :=
  let l := a.toNat % 16
  let u := a.toNat / 16
  (if l > 9 ∨ f.h then 0x06#8 else 0x00#8) ||| (if (u > 8 ∧ l > 9) ∨ u > 9 ∨ f.c then 0x60#8 else 0x00#8)

/-- DAA (R213): `overflow` is the unspecified new V (D15). -/
def daaOp (f : Ccr) (a : Byte) (overflow : Bool) : Byte × Ccr :=
  let s : BitVec 9 := a.setWidth 9 + (daaCorrection f a).setWidth 9
  let r : Byte := s.setWidth 8
  (r, { nz8 f r with v := overflow, c := f.c || s.getLsbD 8 })

/-- INX and DEX write Z alone (R152, R154). -/
def zeroFlag16 (f : Ccr) (r : Word) : Ccr := { f with z := r == 0x0000#16 }

end Sys2Proof.Machine
end

