-- ==== Sys2Proof/Machine/Operands.lean ====
section
/-! DEFINITION. The operand forms (30_encoding R127 to R130): their addresses, their bus cycles, their values. The
instruction's own bytes have been fetched; PC is past them. -/

namespace Sys2Proof.Machine

/-- An accumulator (R20). -/
inductive Acc where
  | a
  | b
deriving DecidableEq, Repr

/-- A 16-bit register of the loads and stores: X, SP, or D = A:B (R22 to R24). -/
inductive Reg16 where
  | x
  | sp
  | d
deriving DecidableEq, Repr

/-- A memory operand (R128 to R130). -/
inductive Mem where
  /-- Direct: $00:a. -/
  | dir (a : Byte)
  /-- Extended. -/
  | ext (a : Word)
  /-- Indexed: X plus the unsigned offset. -/
  | idx (off : Byte)
deriving DecidableEq, Repr

/-- A source of one byte: immediate or memory. -/
inductive Src8 where
  | imm (m : Byte)
  | mem (o : Mem)
deriving DecidableEq, Repr

/-- A source of two bytes: immediate or memory. -/
inductive Src16 where
  | imm (m : Word)
  | mem (o : Mem)
deriving DecidableEq, Repr

/-- EA (R128, R129, R130). -/
def Mem.ea (o : Mem) (s : State) : Addr :=
  match o with
  | .dir a => zext16 a
  | .ext a => a
  | .idx off => s.cpu.x + zext16 off

/-- The cycles between the operand bytes and the first access to the operand: one idle cycle in indexed mode (R455). -/
def Mem.lead (o : Mem) (s : State) : State :=
  match o with
  | .dir _ => s
  | .ext _ => s
  | .idx _ => s.busIdle

/-- MemRead(EA, 1), after the leading cycles. -/
def Mem.read8 (o : Mem) (s : State) : Byte × State := (o.lead s).busRead (o.ea s)

/-- MemRead(EA, 2), after the leading cycles. -/
def Mem.read16 (o : Mem) (s : State) : Word × State := (o.lead s).busRead16 (o.ea s)

/-- MemWrite(EA, 1, v), after the leading cycles. -/
def Mem.write8 (o : Mem) (v : Byte) (s : State) : State := (o.lead s).busWrite (o.ea s) v

/-- MemWrite(EA, 2, v), after the leading cycles. -/
def Mem.write16 (o : Mem) (v : Word) (s : State) : State := (o.lead s).busWrite16 (o.ea s) v

/-- The two addresses of a 16-bit operand (R90, R83). -/
def Mem.pair (o : Mem) (s : State) : List Addr := [o.ea s, o.ea s + 1]

/-- `opnd`, one byte: an immediate has come with the instruction, a memory operand is read. -/
def Src8.read (o : Src8) (s : State) : Byte × State :=
  match o with
  | .imm m => (m, s)
  | .mem e => e.read8 s

/-- The addresses `Src8.read` uses the data of. -/
def Src8.addrs (o : Src8) (s : State) : List Addr :=
  match o with
  | .imm _ => []
  | .mem e => [e.ea s]

/-- `opnd`, two bytes. -/
def Src16.read (o : Src16) (s : State) : Word × State :=
  match o with
  | .imm m => (m, s)
  | .mem e => e.read16 s

/-- The addresses `Src16.read` uses the data of. -/
def Src16.addrs (o : Src16) (s : State) : List Addr :=
  match o with
  | .imm _ => []
  | .mem e => e.pair s

end Sys2Proof.Machine
end

