-- ==== Sys2Proof/Machine/Ops.lean ====
section
/-! DEFINITION. The named operations the meanings are made of: registers, stack (R7), the stop at reserved addresses
(R59), taking an exception (R362) and returning from one (R313), and one operation for each shape of instruction. An
operation of an instruction starts where its last byte has been fetched and spends the cycles R452 to R458 leave. -/

namespace Sys2Proof.Machine

/-- What a step or an instruction answers. -/
abbrev Result := Host.Outcome State Fault Refusal

/-! ### Registers -/

/-- The condition codes replaced. -/
def State.withCcr (f : Ccr) (s : State) : State := { s with cpu := { s.cpu with ccr := f } }

/-- X replaced. -/
def State.withX (v : Word) (s : State) : State := { s with cpu := { s.cpu with x := v } }

/-- SP replaced. -/
def State.withSp (v : Word) (s : State) : State := { s with cpu := { s.cpu with sp := v } }

/-- PC replaced. -/
def State.withPc (v : Word) (s : State) : State := { s with cpu := { s.cpu with pc := v } }

/-- An accumulator's value. -/
def State.acc (s : State) (r : Acc) : Byte :=
  match r with
  | .a => s.cpu.a
  | .b => s.cpu.b

/-- An accumulator replaced. -/
def State.withAcc (r : Acc) (v : Byte) (s : State) : State :=
  match r with
  | .a => { s with cpu := { s.cpu with a := v } }
  | .b => { s with cpu := { s.cpu with b := v } }

/-- D = A:B (R22). -/
def State.d (s : State) : Word := join s.cpu.a s.cpu.b

/-- A 16-bit register's value. -/
def State.reg16 (s : State) (r : Reg16) : Word :=
  match r with
  | .x => s.cpu.x
  | .sp => s.cpu.sp
  | .d => s.d

/-- A 16-bit register replaced; writing D writes A and B (R22). -/
def State.withReg16 (r : Reg16) (v : Word) (s : State) : State :=
  match r with
  | .x => s.withX v
  | .sp => s.withSp v
  | .d => { s with cpu := { s.cpu with a := hi v, b := lo v } }

/-! ### The stop at reserved addresses -/

/-- The next state, unless a reserved address is among those accessed: then the refusal of R59 (U9, log 14). -/
def guardBus (as : List Addr) (t : State) : Result :=
  match as.find? isReserved with
  | some a => .refused (.reservedAddress a)
  | none => .next t

/-! ### The stack (R7) -/

/-- `n` addresses downwards from `a`: those of `n` pushes with SP = `a`. -/
def addrsDown : Nat → Addr → List Addr
  | 0, _ => []
  | n + 1, a => a :: addrsDown n (a - 1)

/-- `n` addresses upwards from `a`: those of `n` pulls with SP = `a - 1`. -/
def addrsUp : Nat → Addr → List Addr
  | 0, _ => []
  | n + 1, a => a :: addrsUp n (a + 1)

/-- Push8: write at SP, then SP less one. -/
def State.push8 (v : Byte) (s : State) : State := (s.busWrite s.cpu.sp v).withSp (s.cpu.sp - 1)

/-- Push16: low byte first, at the higher address. -/
def State.push16 (v : Word) (s : State) : State := (s.push8 (lo v)).push8 (hi v)

/-- Pull8: SP plus one, then read at SP. -/
def State.pull8 (s : State) : Byte × State := (s.withSp (s.cpu.sp + 1)).busRead (s.cpu.sp + 1)

/-- Pull16: high byte first, from the lower address. -/
def State.pull16 (s : State) : Word × State :=
  let h := s.pull8
  let l := h.2.pull8
  (join h.1 l.1, l.2)

/-- The seven bytes every interrupt stacks: PC, X, A, B, CCR (R362, R314, R318, C3). -/
def State.pushFrame (s : State) : State :=
  ((((s.push16 s.cpu.pc).push16 s.cpu.x).push8 s.cpu.a).push8 s.cpu.b).push8 s.cpu.ccr.toByte

/-! ### Taking an exception and returning from one -/

/-- The end of R362: I set, NmiPending cleared if the source is NMI, PC from the vector, running. -/
def State.vectorTo (vector : Addr) (nmi : Bool) (s : State) : State :=
  let s1 := { (s.withCcr { s.cpu.ccr with i := true }) with nmiPending := s.nmiPending && !nmi }
  let p := s1.busRead16 vector
  { (p.2.withPc p.1) with run := .running }

/-- `raise Interrupt(vector)` (R13, R362) in the cycles of SWI's bus sequence from the stacking on (R459 (a)). With
`stacked` the seven bytes are on the stack already (R366). -/
def State.takeException (stacked : Bool) (vector : Addr) (nmi : Bool) (s : State) : State :=
  if stacked then s.vectorTo vector nmi
  else
    let t := s.pushFrame
    (t.busDiscard t.cpu.sp).vectorTo vector nmi

/-- The addresses a stacking of seven bytes writes. -/
def State.frameAddrs (s : State) : List Addr := addrsDown 7 s.cpu.sp

/-- The pulls of RTI (R313, R365): CCR, B, A, X, PC. -/
def State.pullFrame (s : State) : State :=
  let f := s.pull8
  let b := f.2.pull8
  let a := b.2.pull8
  let x := a.2.pull16
  let p := x.2.pull16
  { p.2 with cpu := { p.2.cpu with ccr := Ccr.ofByte f.1, b := b.1, a := a.1, x := x.1, pc := p.1 } }

/-! ### Cycles that many instructions share -/

/-- Cycle 2 of every one-byte instruction: a discarded read of the byte after it (R456). -/
def State.nextByte (s : State) : State := s.busDiscard s.cpu.pc

/-- Cycles 2 and 3 of the pulls: discarded reads of the byte after the opcode and at SP (R456, R457). -/
def State.beforePull (s : State) : State := s.nextByte.busDiscard s.cpu.sp

/-- `n` idle cycles. -/
def State.idles : Nat → State → State
  | 0, s => s
  | n + 1, s => State.idles n s.busIdle

/-! ### One operation for each shape of instruction -/

/-- An inherent instruction of two cycles that changes the registers only. -/
def inherent2 (f : Cpu → Cpu) (s : State) : Result :=
  let t := s.nextByte
  .next { t with cpu := f t.cpu }

/-- An inherent instruction of three cycles that changes the registers only, the third cycle idle. -/
def inherent3 (f : Cpu → Cpu) (s : State) : Result :=
  let t := s.nextByte.busIdle
  .next { t with cpu := f t.cpu }

/-- An inherent instruction of three cycles that changes the registers only, the third a discarded read at SP. -/
def inherentSp (f : Cpu → Cpu) (s : State) : Result :=
  let t := s.beforePull
  .next { t with cpu := f t.cpu }

/-- `acc <- op(acc, opnd)` with flags. -/
def accBinary (op : Ccr → Byte → Byte → Byte × Ccr) (r : Acc) (o : Src8) (s : State) : Result :=
  let m := o.read s
  let out := op s.cpu.ccr (s.acc r) m.1
  guardBus (o.addrs s) ((m.2.withAcc r out.1).withCcr out.2)

/-- `op(acc, opnd)` for its flags alone. -/
def accCompare (op : Ccr → Byte → Byte → Byte × Ccr) (r : Acc) (o : Src8) (s : State) : Result :=
  let m := o.read s
  guardBus (o.addrs s) (m.2.withCcr (op s.cpu.ccr (s.acc r) m.1).2)

/-- `acc <- op(acc)` with flags, inherent, two cycles. -/
def accUnary (op : Ccr → Byte → Byte × Ccr) (r : Acc) (s : State) : Result :=
  let out := op s.cpu.ccr (s.acc r)
  .next ((s.nextByte.withAcc r out.1).withCcr out.2)

/-- The read-modify-write frame of R196: read EA, one idle cycle, write EA. -/
def memUnary (op : Ccr → Byte → Byte × Ccr) (o : Mem) (s : State) : Result :=
  let m := o.read8 s
  let out := op s.cpu.ccr m.1
  guardBus [o.ea s] ((m.2.busIdle.busWrite (o.ea s) out.1).withCcr out.2)

/-- TST on memory (R207, R459 (b)): read EA, two idle cycles, no write. -/
def memTest (o : Mem) (s : State) : Result :=
  let m := o.read8 s
  guardBus [o.ea s] (m.2.busIdle.busIdle.withCcr (tstFlags s.cpu.ccr m.1))

/-- A store of an accumulator (R262, R263). -/
def storeAcc (r : Acc) (o : Mem) (s : State) : Result :=
  guardBus [o.ea s] ((o.write8 (s.acc r) s).withCcr (moveFlags8 s.cpu.ccr (s.acc r)))

/-- A store of a 16-bit register (R158, R159, R264). -/
def storeReg16 (r : Reg16) (o : Mem) (s : State) : Result :=
  guardBus (o.pair s) ((o.write16 (s.reg16 r) s).withCcr (moveFlags16 s.cpu.ccr (s.reg16 r)))

/-- A load of a 16-bit register (R156, R157, R261). -/
def loadReg16 (r : Reg16) (o : Src16) (s : State) : Result :=
  let m := o.read s
  guardBus (o.addrs s) ((m.2.withReg16 r m.1).withCcr (moveFlags16 s.cpu.ccr m.1))

/-- `D <- op(D, opnd)` with flags and a last idle cycle (ADDD, SUBD). -/
def dBinary (op : Ccr → Word → Word → Word × Ccr) (o : Src16) (s : State) : Result :=
  let m := o.read s
  let out := op s.cpu.ccr s.d m.1
  guardBus (o.addrs s) ((m.2.busIdle.withReg16 .d out.1).withCcr out.2)

/-- CPX (R151): the flags of X minus the operand, and a last idle cycle. -/
def compareX (o : Src16) (s : State) : Result :=
  let m := o.read s
  guardBus (o.addrs s) (m.2.busIdle.withCcr (sub16 s.cpu.ccr s.cpu.x m.1).2)

/-- The conditional branch frame (R291): PC is past the two bytes; one idle cycle, taken or not (R458). -/
def branchIf (cond : Bool) (rel : Byte) (s : State) : Result :=
  .next (if cond then s.busIdle.withPc (s.cpu.pc + sext16 rel) else s.busIdle)

/-- JMP (R309). -/
def jumpTo (o : Mem) (s : State) : Result := .next ((o.lead s).withPc (o.ea s))

/-- A call of `target` (R308, R310): a discarded read of its first byte, the return address pushed, PC there. -/
def callTo (target : Addr) (s : State) : Result :=
  guardBus (addrsDown 2 s.cpu.sp) (((s.busDiscard target).push16 s.cpu.pc).withPc target)

end Sys2Proof.Machine
end

