-- ==== Sys2Proof/Machine/Arithmetic.lean ====
section
/-! DEFINITION. The meanings of the arithmetic instructions (41_arithmetic). One definition per row of the
opcode table; each starts where the last byte of the instruction has been fetched. -/

namespace Sys2Proof.Machine

/-- SBA, inherent, $10 (R192). -/
def execSba (s : State) : Result :=
  inherent2 (fun c => { c with a := (subOp c.ccr c.a c.b).1, ccr := (subOp c.ccr c.a c.b).2 }) s

/-- CBA, inherent, $11 (R193). -/
def execCba (s : State) : Result := inherent2 (fun c => { c with ccr := (subOp c.ccr c.a c.b).2 }) s

/-- DAA, inherent, $19 (R213). The new V is a free bit (D15). -/
def execDaa (s : State) : Result :=
  let t := s.nextByte
  let out := daaOp s.cpu.ccr s.cpu.a (Config.freeBit .daaOverflow t.cycles)
  .next ((t.withAcc .a out.1).withCcr out.2)

/-- ABA, inherent, $1B (R181). -/
def execAba (s : State) : Result :=
  inherent2 (fun c => { c with a := (addOp c.ccr c.a c.b).1, ccr := (addOp c.ccr c.a c.b).2 }) s

/-- MUL, inherent, $3D (R206). -/
def execMul (s : State) : Result :=
  let out := mulOp s.cpu.ccr s.cpu.a s.cpu.b
  .next (((s.nextByte.idles 8).withReg16 .d out.1).withCcr out.2)

/-- NEGA, inherent, $40 (R198). -/
def execNega (s : State) : Result := accUnary negOp .a s

/-- DECA, inherent, $4A (R204). -/
def execDeca (s : State) : Result := accUnary decOp .a s

/-- INCA, inherent, $4C (R201). -/
def execInca (s : State) : Result := accUnary incOp .a s

/-- TSTA, inherent, $4D (R208). -/
def execTsta (s : State) : Result := inherent2 (fun c => { c with ccr := tstFlags c.ccr c.a }) s

/-- CLRA, inherent, $4F (R211). -/
def execClra (s : State) : Result := accUnary clrOp .a s

/-- NEGB, inherent, $50 (R199). -/
def execNegb (s : State) : Result := accUnary negOp .b s

/-- DECB, inherent, $5A (R205). -/
def execDecb (s : State) : Result := accUnary decOp .b s

/-- INCB, inherent, $5C (R202). -/
def execIncb (s : State) : Result := accUnary incOp .b s

/-- TSTB, inherent, $5D (R209). -/
def execTstb (s : State) : Result := inherent2 (fun c => { c with ccr := tstFlags c.ccr c.b }) s

/-- CLRB, inherent, $5F (R212). -/
def execClrb (s : State) : Result := accUnary clrOp .b s

/-- NEG, indexed, $60 (R197). -/
def execNegIdx (off : Byte) (s : State) : Result := memUnary negOp (.idx off) s

/-- DEC, indexed, $6A (R203). -/
def execDecIdx (off : Byte) (s : State) : Result := memUnary decOp (.idx off) s

/-- INC, indexed, $6C (R200). -/
def execIncIdx (off : Byte) (s : State) : Result := memUnary incOp (.idx off) s

/-- TST, indexed, $6D (R207). -/
def execTstIdx (off : Byte) (s : State) : Result := memTest (.idx off) s

/-- CLR, indexed, $6F (R210). -/
def execClrIdx (off : Byte) (s : State) : Result := memUnary clrOp (.idx off) s

/-- NEG, extended, $70 (R197). -/
def execNegExt (a : Word) (s : State) : Result := memUnary negOp (.ext a) s

/-- DEC, extended, $7A (R203). -/
def execDecExt (a : Word) (s : State) : Result := memUnary decOp (.ext a) s

/-- INC, extended, $7C (R200). -/
def execIncExt (a : Word) (s : State) : Result := memUnary incOp (.ext a) s

/-- TST, extended, $7D (R207). -/
def execTstExt (a : Word) (s : State) : Result := memTest (.ext a) s

/-- CLR, extended, $7F (R210). -/
def execClrExt (a : Word) (s : State) : Result := memUnary clrOp (.ext a) s

/-- SUBA, immediate, $80 (R187). -/
def execSubaImm (m : Byte) (s : State) : Result := accBinary subOp .a (.imm m) s

/-- CMPA, immediate, $81 (R194). -/
def execCmpaImm (m : Byte) (s : State) : Result := accCompare subOp .a (.imm m) s

/-- SBCA, immediate, $82 (R190). -/
def execSbcaImm (m : Byte) (s : State) : Result := accBinary sbcOp .a (.imm m) s

/-- SUBD, immediate, $83 (R189). -/
def execSubdImm (m : Word) (s : State) : Result := dBinary sub16 (.imm m) s

/-- ADCA, immediate, $89 (R182). -/
def execAdcaImm (m : Byte) (s : State) : Result := accBinary adcOp .a (.imm m) s

/-- ADDA, immediate, $8B (R184). -/
def execAddaImm (m : Byte) (s : State) : Result := accBinary addOp .a (.imm m) s

/-- SUBA, direct, $90 (R187). -/
def execSubaDir (a : Byte) (s : State) : Result := accBinary subOp .a (.mem (.dir a)) s

/-- CMPA, direct, $91 (R194). -/
def execCmpaDir (a : Byte) (s : State) : Result := accCompare subOp .a (.mem (.dir a)) s

/-- SBCA, direct, $92 (R190). -/
def execSbcaDir (a : Byte) (s : State) : Result := accBinary sbcOp .a (.mem (.dir a)) s

/-- SUBD, direct, $93 (R189). -/
def execSubdDir (a : Byte) (s : State) : Result := dBinary sub16 (.mem (.dir a)) s

/-- ADCA, direct, $99 (R182). -/
def execAdcaDir (a : Byte) (s : State) : Result := accBinary adcOp .a (.mem (.dir a)) s

/-- ADDA, direct, $9B (R184). -/
def execAddaDir (a : Byte) (s : State) : Result := accBinary addOp .a (.mem (.dir a)) s

/-- SUBA, indexed, $A0 (R187). -/
def execSubaIdx (off : Byte) (s : State) : Result := accBinary subOp .a (.mem (.idx off)) s

/-- CMPA, indexed, $A1 (R194). -/
def execCmpaIdx (off : Byte) (s : State) : Result := accCompare subOp .a (.mem (.idx off)) s

/-- SBCA, indexed, $A2 (R190). -/
def execSbcaIdx (off : Byte) (s : State) : Result := accBinary sbcOp .a (.mem (.idx off)) s

/-- SUBD, indexed, $A3 (R189). -/
def execSubdIdx (off : Byte) (s : State) : Result := dBinary sub16 (.mem (.idx off)) s

/-- ADCA, indexed, $A9 (R182). -/
def execAdcaIdx (off : Byte) (s : State) : Result := accBinary adcOp .a (.mem (.idx off)) s

/-- ADDA, indexed, $AB (R184). -/
def execAddaIdx (off : Byte) (s : State) : Result := accBinary addOp .a (.mem (.idx off)) s

/-- SUBA, extended, $B0 (R187). -/
def execSubaExt (a : Word) (s : State) : Result := accBinary subOp .a (.mem (.ext a)) s

/-- CMPA, extended, $B1 (R194). -/
def execCmpaExt (a : Word) (s : State) : Result := accCompare subOp .a (.mem (.ext a)) s

/-- SBCA, extended, $B2 (R190). -/
def execSbcaExt (a : Word) (s : State) : Result := accBinary sbcOp .a (.mem (.ext a)) s

/-- SUBD, extended, $B3 (R189). -/
def execSubdExt (a : Word) (s : State) : Result := dBinary sub16 (.mem (.ext a)) s

/-- ADCA, extended, $B9 (R182). -/
def execAdcaExt (a : Word) (s : State) : Result := accBinary adcOp .a (.mem (.ext a)) s

/-- ADDA, extended, $BB (R184). -/
def execAddaExt (a : Word) (s : State) : Result := accBinary addOp .a (.mem (.ext a)) s

/-- SUBB, immediate, $C0 (R188). -/
def execSubbImm (m : Byte) (s : State) : Result := accBinary subOp .b (.imm m) s

/-- CMPB, immediate, $C1 (R195). -/
def execCmpbImm (m : Byte) (s : State) : Result := accCompare subOp .b (.imm m) s

/-- SBCB, immediate, $C2 (R191). -/
def execSbcbImm (m : Byte) (s : State) : Result := accBinary sbcOp .b (.imm m) s

/-- ADDD, immediate, $C3 (R186). -/
def execAdddImm (m : Word) (s : State) : Result := dBinary add16 (.imm m) s

/-- ADCB, immediate, $C9 (R183). -/
def execAdcbImm (m : Byte) (s : State) : Result := accBinary adcOp .b (.imm m) s

/-- ADDB, immediate, $CB (R185). -/
def execAddbImm (m : Byte) (s : State) : Result := accBinary addOp .b (.imm m) s

/-- SUBB, direct, $D0 (R188). -/
def execSubbDir (a : Byte) (s : State) : Result := accBinary subOp .b (.mem (.dir a)) s

/-- CMPB, direct, $D1 (R195). -/
def execCmpbDir (a : Byte) (s : State) : Result := accCompare subOp .b (.mem (.dir a)) s

/-- SBCB, direct, $D2 (R191). -/
def execSbcbDir (a : Byte) (s : State) : Result := accBinary sbcOp .b (.mem (.dir a)) s

/-- ADDD, direct, $D3 (R186). -/
def execAdddDir (a : Byte) (s : State) : Result := dBinary add16 (.mem (.dir a)) s

/-- ADCB, direct, $D9 (R183). -/
def execAdcbDir (a : Byte) (s : State) : Result := accBinary adcOp .b (.mem (.dir a)) s

/-- ADDB, direct, $DB (R185). -/
def execAddbDir (a : Byte) (s : State) : Result := accBinary addOp .b (.mem (.dir a)) s

/-- SUBB, indexed, $E0 (R188). -/
def execSubbIdx (off : Byte) (s : State) : Result := accBinary subOp .b (.mem (.idx off)) s

/-- CMPB, indexed, $E1 (R195). -/
def execCmpbIdx (off : Byte) (s : State) : Result := accCompare subOp .b (.mem (.idx off)) s

/-- SBCB, indexed, $E2 (R191). -/
def execSbcbIdx (off : Byte) (s : State) : Result := accBinary sbcOp .b (.mem (.idx off)) s

/-- ADDD, indexed, $E3 (R186). -/
def execAdddIdx (off : Byte) (s : State) : Result := dBinary add16 (.mem (.idx off)) s

/-- ADCB, indexed, $E9 (R183). -/
def execAdcbIdx (off : Byte) (s : State) : Result := accBinary adcOp .b (.mem (.idx off)) s

/-- ADDB, indexed, $EB (R185). -/
def execAddbIdx (off : Byte) (s : State) : Result := accBinary addOp .b (.mem (.idx off)) s

/-- SUBB, extended, $F0 (R188). -/
def execSubbExt (a : Word) (s : State) : Result := accBinary subOp .b (.mem (.ext a)) s

/-- CMPB, extended, $F1 (R195). -/
def execCmpbExt (a : Word) (s : State) : Result := accCompare subOp .b (.mem (.ext a)) s

/-- SBCB, extended, $F2 (R191). -/
def execSbcbExt (a : Word) (s : State) : Result := accBinary sbcOp .b (.mem (.ext a)) s

/-- ADDD, extended, $F3 (R186). -/
def execAdddExt (a : Word) (s : State) : Result := dBinary add16 (.mem (.ext a)) s

/-- ADCB, extended, $F9 (R183). -/
def execAdcbExt (a : Word) (s : State) : Result := accBinary adcOp .b (.mem (.ext a)) s

/-- ADDB, extended, $FB (R185). -/
def execAddbExt (a : Word) (s : State) : Result := accBinary addOp .b (.mem (.ext a)) s

end Sys2Proof.Machine
end

