-- ==== Sys2Proof/Machine/ConditionCodes.lean ====
section
/-! DEFINITION. The meanings of the condition code instructions (44_ccr). One definition per row of the
opcode table; each starts where the last byte of the instruction has been fetched. -/

namespace Sys2Proof.Machine

/-- TAP, inherent, $06 (R336). Bits 7 and 6 of A are ignored; clearing I by it may hold off the next interrupt (R359). -/
def execTap (s : State) : Result :=
  let f := Ccr.ofByte s.cpu.a
  .next { (s.nextByte.withCcr f) with irqHoldoff := s.cpu.ccr.i && !f.i }

/-- TPA, inherent, $07 (R337). -/
def execTpa (s : State) : Result := inherent2 (fun c => { c with a := c.ccr.toByte }) s

/-- CLV, inherent, $0A (R332). -/
def execClv (s : State) : Result := inherent2 (fun c => { c with ccr := { c.ccr with v := false } }) s

/-- SEV, inherent, $0B (R335). -/
def execSev (s : State) : Result := inherent2 (fun c => { c with ccr := { c.ccr with v := true } }) s

/-- CLC, inherent, $0C (R330). -/
def execClc (s : State) : Result := inherent2 (fun c => { c with ccr := { c.ccr with c := false } }) s

/-- SEC, inherent, $0D (R333). -/
def execSec (s : State) : Result := inherent2 (fun c => { c with ccr := { c.ccr with c := true } }) s

/-- CLI, inherent, $0E (R331). Clearing I may hold off the next interrupt by one instruction (R359). -/
def execCli (s : State) : Result :=
  .next { (s.nextByte.withCcr { s.cpu.ccr with i := false }) with irqHoldoff := s.cpu.ccr.i }

/-- SEI, inherent, $0F (R334). -/
def execSei (s : State) : Result := inherent2 (fun c => { c with ccr := { c.ccr with i := true } }) s

end Sys2Proof.Machine
end

