-- ==== Sys2Proof/Machine/IndexStack.lean ====
section
/-! DEFINITION. The meanings of the index register and stack pointer instructions (40_index_stack). One definition per row of the
opcode table; each starts where the last byte of the instruction has been fetched. -/

namespace Sys2Proof.Machine

/-- INX, inherent, $08 (R154). -/
def execInx (s : State) : Result := inherent3 (fun c => { c with x := c.x + 1, ccr := zeroFlag16 c.ccr (c.x + 1) }) s

/-- DEX, inherent, $09 (R152). -/
def execDex (s : State) : Result := inherent3 (fun c => { c with x := c.x - 1, ccr := zeroFlag16 c.ccr (c.x - 1) }) s

/-- TSX, inherent, $30 (R161). -/
def execTsx (s : State) : Result := inherentSp (fun c => { c with x := c.sp + 1 }) s

/-- INS, inherent, $31 (R155). -/
def execIns (s : State) : Result := inherentSp (fun c => { c with sp := c.sp + 1 }) s

/-- DES, inherent, $34 (R153). -/
def execDes (s : State) : Result := inherentSp (fun c => { c with sp := c.sp - 1 }) s

/-- TXS, inherent, $35 (R160). -/
def execTxs (s : State) : Result := inherent3 (fun c => { c with sp := c.x - 1 }) s

/-- PULX, inherent, $38 (R164). -/
def execPulx (s : State) : Result :=
  let m := s.beforePull.pull16
  guardBus (addrsUp 2 (s.cpu.sp + 1)) (m.2.withX m.1)

/-- ABX, inherent, $3A (R162). -/
def execAbx (s : State) : Result := inherent3 (fun c => { c with x := c.x + zext16 c.b }) s

/-- PSHX, inherent, $3C (R163). -/
def execPshx (s : State) : Result := guardBus (addrsDown 2 s.cpu.sp) (s.nextByte.push16 s.cpu.x)

/-- CPX, immediate, $8C (R151). -/
def execCpxImm (m : Word) (s : State) : Result := compareX (.imm m) s

/-- LDS, immediate, $8E (R157). -/
def execLdsImm (m : Word) (s : State) : Result := loadReg16 .sp (.imm m) s

/-- CPX, direct, $9C (R151). -/
def execCpxDir (a : Byte) (s : State) : Result := compareX (.mem (.dir a)) s

/-- LDS, direct, $9E (R157). -/
def execLdsDir (a : Byte) (s : State) : Result := loadReg16 .sp (.mem (.dir a)) s

/-- STS, direct, $9F (R159). -/
def execStsDir (a : Byte) (s : State) : Result := storeReg16 .sp (.dir a) s

/-- CPX, indexed, $AC (R151). -/
def execCpxIdx (off : Byte) (s : State) : Result := compareX (.mem (.idx off)) s

/-- LDS, indexed, $AE (R157). -/
def execLdsIdx (off : Byte) (s : State) : Result := loadReg16 .sp (.mem (.idx off)) s

/-- STS, indexed, $AF (R159). -/
def execStsIdx (off : Byte) (s : State) : Result := storeReg16 .sp (.idx off) s

/-- CPX, extended, $BC (R151). -/
def execCpxExt (a : Word) (s : State) : Result := compareX (.mem (.ext a)) s

/-- LDS, extended, $BE (R157). -/
def execLdsExt (a : Word) (s : State) : Result := loadReg16 .sp (.mem (.ext a)) s

/-- STS, extended, $BF (R159). -/
def execStsExt (a : Word) (s : State) : Result := storeReg16 .sp (.ext a) s

/-- LDX, immediate, $CE (R156). -/
def execLdxImm (m : Word) (s : State) : Result := loadReg16 .x (.imm m) s

/-- LDX, direct, $DE (R156). -/
def execLdxDir (a : Byte) (s : State) : Result := loadReg16 .x (.mem (.dir a)) s

/-- STX, direct, $DF (R158). -/
def execStxDir (a : Byte) (s : State) : Result := storeReg16 .x (.dir a) s

/-- LDX, indexed, $EE (R156). -/
def execLdxIdx (off : Byte) (s : State) : Result := loadReg16 .x (.mem (.idx off)) s

/-- STX, indexed, $EF (R158). -/
def execStxIdx (off : Byte) (s : State) : Result := storeReg16 .x (.idx off) s

/-- LDX, extended, $FE (R156). -/
def execLdxExt (a : Word) (s : State) : Result := loadReg16 .x (.mem (.ext a)) s

/-- STX, extended, $FF (R158). -/
def execStxExt (a : Word) (s : State) : Result := storeReg16 .x (.ext a) s

end Sys2Proof.Machine
end

