-- ==== Sys2Proof/Machine/JumpBranch.lean ====
section
/-! DEFINITION. The meanings of branches, jumps, calls, returns, SWI, WAI, NOP (43_jump_branch). One definition per row of the
opcode table; each starts where the last byte of the instruction has been fetched. -/

namespace Sys2Proof.Machine

/-- NOP, inherent, $01 (R312). -/
def execNop (s : State) : Result := inherent2 id s

/-- BRA, relative, $20 (R292). -/
def execBra (rel : Byte) (s : State) : Result := branchIf true rel s

/-- BRN, relative, $21 (R293). -/
def execBrn (rel : Byte) (s : State) : Result := branchIf false rel s

/-- BHI, relative, $22 (R294). -/
def execBhi (rel : Byte) (s : State) : Result := branchIf (!(s.cpu.ccr.c || s.cpu.ccr.z)) rel s

/-- BLS, relative, $23 (R295). -/
def execBls (rel : Byte) (s : State) : Result := branchIf (s.cpu.ccr.c || s.cpu.ccr.z) rel s

/-- BCC, relative, $24 (R296). -/
def execBcc (rel : Byte) (s : State) : Result := branchIf (!s.cpu.ccr.c) rel s

/-- BCS, relative, $25 (R297). -/
def execBcs (rel : Byte) (s : State) : Result := branchIf s.cpu.ccr.c rel s

/-- BNE, relative, $26 (R298). -/
def execBne (rel : Byte) (s : State) : Result := branchIf (!s.cpu.ccr.z) rel s

/-- BEQ, relative, $27 (R299). -/
def execBeq (rel : Byte) (s : State) : Result := branchIf s.cpu.ccr.z rel s

/-- BVC, relative, $28 (R300). -/
def execBvc (rel : Byte) (s : State) : Result := branchIf (!s.cpu.ccr.v) rel s

/-- BVS, relative, $29 (R301). -/
def execBvs (rel : Byte) (s : State) : Result := branchIf s.cpu.ccr.v rel s

/-- BPL, relative, $2A (R302). -/
def execBpl (rel : Byte) (s : State) : Result := branchIf (!s.cpu.ccr.n) rel s

/-- BMI, relative, $2B (R303). -/
def execBmi (rel : Byte) (s : State) : Result := branchIf s.cpu.ccr.n rel s

/-- BGE, relative, $2C (R304). -/
def execBge (rel : Byte) (s : State) : Result := branchIf (!(s.cpu.ccr.n ^^ s.cpu.ccr.v)) rel s

/-- BLT, relative, $2D (R305). -/
def execBlt (rel : Byte) (s : State) : Result := branchIf (s.cpu.ccr.n ^^ s.cpu.ccr.v) rel s

/-- BGT, relative, $2E (R306). -/
def execBgt (rel : Byte) (s : State) : Result := branchIf (!(s.cpu.ccr.z || (s.cpu.ccr.n ^^ s.cpu.ccr.v))) rel s

/-- BLE, relative, $2F (R307). -/
def execBle (rel : Byte) (s : State) : Result := branchIf (s.cpu.ccr.z || (s.cpu.ccr.n ^^ s.cpu.ccr.v)) rel s

/-- RTS, inherent, $39 (R311). -/
def execRts (s : State) : Result :=
  let m := s.beforePull.pull16
  guardBus (addrsUp 2 (s.cpu.sp + 1)) (m.2.withPc m.1)

/-- RTI, inherent, $3B (R313). The pulls of `State.pullFrame`. -/
def execRti (s : State) : Result := guardBus (addrsUp 7 (s.cpu.sp + 1)) s.beforePull.pullFrame

/-- WAI, inherent, $3E (R318). The wait is `State.stepWaiting`. -/
def execWai (s : State) : Result := guardBus s.frameAddrs { s.nextByte.pushFrame with run := .waiting }

/-- SWI, inherent, $3F (R314). The entry of R362 through $FFFA. -/
def execSwi (s : State) : Result := guardBus s.frameAddrs (s.nextByte.takeException false 0xFFFA false)

/-- JMP, indexed, $6E (R309). -/
def execJmpIdx (off : Byte) (s : State) : Result := jumpTo (.idx off) s

/-- JMP, extended, $7E (R309). -/
def execJmpExt (a : Word) (s : State) : Result := jumpTo (.ext a) s

/-- BSR, relative, $8D (R308). -/
def execBsr (rel : Byte) (s : State) : Result := callTo (s.cpu.pc + sext16 rel) s.busIdle

/-- JSR, direct, $9D (R310). -/
def execJsrDir (a : Byte) (s : State) : Result := callTo (zext16 a) s

/-- JSR, indexed, $AD (R310). -/
def execJsrIdx (off : Byte) (s : State) : Result := callTo (s.cpu.x + zext16 off) s.busIdle

/-- JSR, extended, $BD (R310). -/
def execJsrExt (a : Word) (s : State) : Result := callTo a s

end Sys2Proof.Machine
end

