-- ==== Sys2Proof/Machine/LogicMove.lean ====
section
/-! DEFINITION. The meanings of the logic, shift and move instructions (42_logic_shift_move). One definition per row of the
opcode table; each starts where the last byte of the instruction has been fetched. -/

namespace Sys2Proof.Machine

/-- LSRD, inherent, $04 (R252). -/
def execLsrd (s : State) : Result :=
  let out := lsrdOp s.cpu.ccr s.d
  .next ((s.nextByte.busIdle.withReg16 .d out.1).withCcr out.2)

/-- ASLD, inherent, $05 (R245). -/
def execAsld (s : State) : Result :=
  let out := asldOp s.cpu.ccr s.d
  .next ((s.nextByte.busIdle.withReg16 .d out.1).withCcr out.2)

/-- TAB, inherent, $16 (R265). -/
def execTab (s : State) : Result := inherent2 (fun c => { c with b := c.a, ccr := moveFlags8 c.ccr c.a }) s

/-- TBA, inherent, $17 (R266). -/
def execTba (s : State) : Result := inherent2 (fun c => { c with a := c.b, ccr := moveFlags8 c.ccr c.b }) s

/-- PULA, inherent, $32 (R269). -/
def execPula (s : State) : Result :=
  let m := s.beforePull.pull8
  guardBus [s.cpu.sp + 1] (m.2.withAcc .a m.1)

/-- PULB, inherent, $33 (R270). -/
def execPulb (s : State) : Result :=
  let m := s.beforePull.pull8
  guardBus [s.cpu.sp + 1] (m.2.withAcc .b m.1)

/-- PSHA, inherent, $36 (R267). -/
def execPsha (s : State) : Result := guardBus [s.cpu.sp] (s.nextByte.push8 s.cpu.a)

/-- PSHB, inherent, $37 (R268). -/
def execPshb (s : State) : Result := guardBus [s.cpu.sp] (s.nextByte.push8 s.cpu.b)

/-- COMA, inherent, $43 (R240). -/
def execComa (s : State) : Result := accUnary comOp .a s

/-- LSRA, inherent, $44 (R250). -/
def execLsra (s : State) : Result := accUnary lsrOp .a s

/-- RORA, inherent, $46 (R257). -/
def execRora (s : State) : Result := accUnary rorOp .a s

/-- ASRA, inherent, $47 (R247). -/
def execAsra (s : State) : Result := accUnary asrOp .a s

/-- ASLA, inherent, $48 (R243). -/
def execAsla (s : State) : Result := accUnary aslOp .a s

/-- ROLA, inherent, $49 (R254). -/
def execRola (s : State) : Result := accUnary rolOp .a s

/-- COMB, inherent, $53 (R241). -/
def execComb (s : State) : Result := accUnary comOp .b s

/-- LSRB, inherent, $54 (R251). -/
def execLsrb (s : State) : Result := accUnary lsrOp .b s

/-- RORB, inherent, $56 (R258). -/
def execRorb (s : State) : Result := accUnary rorOp .b s

/-- ASRB, inherent, $57 (R248). -/
def execAsrb (s : State) : Result := accUnary asrOp .b s

/-- ASLB, inherent, $58 (R244). -/
def execAslb (s : State) : Result := accUnary aslOp .b s

/-- ROLB, inherent, $59 (R255). -/
def execRolb (s : State) : Result := accUnary rolOp .b s

/-- COM, indexed, $63 (R239). -/
def execComIdx (off : Byte) (s : State) : Result := memUnary comOp (.idx off) s

/-- LSR, indexed, $64 (R249). -/
def execLsrIdx (off : Byte) (s : State) : Result := memUnary lsrOp (.idx off) s

/-- ROR, indexed, $66 (R256). -/
def execRorIdx (off : Byte) (s : State) : Result := memUnary rorOp (.idx off) s

/-- ASR, indexed, $67 (R246). -/
def execAsrIdx (off : Byte) (s : State) : Result := memUnary asrOp (.idx off) s

/-- ASL, indexed, $68 (R242). -/
def execAslIdx (off : Byte) (s : State) : Result := memUnary aslOp (.idx off) s

/-- ROL, indexed, $69 (R253). -/
def execRolIdx (off : Byte) (s : State) : Result := memUnary rolOp (.idx off) s

/-- COM, extended, $73 (R239). -/
def execComExt (a : Word) (s : State) : Result := memUnary comOp (.ext a) s

/-- LSR, extended, $74 (R249). -/
def execLsrExt (a : Word) (s : State) : Result := memUnary lsrOp (.ext a) s

/-- ROR, extended, $76 (R256). -/
def execRorExt (a : Word) (s : State) : Result := memUnary rorOp (.ext a) s

/-- ASR, extended, $77 (R246). -/
def execAsrExt (a : Word) (s : State) : Result := memUnary asrOp (.ext a) s

/-- ASL, extended, $78 (R242). -/
def execAslExt (a : Word) (s : State) : Result := memUnary aslOp (.ext a) s

/-- ROL, extended, $79 (R253). -/
def execRolExt (a : Word) (s : State) : Result := memUnary rolOp (.ext a) s

/-- ANDA, immediate, $84 (R231). -/
def execAndaImm (m : Byte) (s : State) : Result := accBinary andOp .a (.imm m) s

/-- BITA, immediate, $85 (R233). -/
def execBitaImm (m : Byte) (s : State) : Result := accCompare andOp .a (.imm m) s

/-- LDAA, immediate, $86 (R259). -/
def execLdaaImm (m : Byte) (s : State) : Result := accBinary ldaOp .a (.imm m) s

/-- EORA, immediate, $88 (R235). -/
def execEoraImm (m : Byte) (s : State) : Result := accBinary eorOp .a (.imm m) s

/-- ORAA, immediate, $8A (R237). -/
def execOraaImm (m : Byte) (s : State) : Result := accBinary oraOp .a (.imm m) s

/-- ANDA, direct, $94 (R231). -/
def execAndaDir (a : Byte) (s : State) : Result := accBinary andOp .a (.mem (.dir a)) s

/-- BITA, direct, $95 (R233). -/
def execBitaDir (a : Byte) (s : State) : Result := accCompare andOp .a (.mem (.dir a)) s

/-- LDAA, direct, $96 (R259). -/
def execLdaaDir (a : Byte) (s : State) : Result := accBinary ldaOp .a (.mem (.dir a)) s

/-- STAA, direct, $97 (R262). -/
def execStaaDir (a : Byte) (s : State) : Result := storeAcc .a (.dir a) s

/-- EORA, direct, $98 (R235). -/
def execEoraDir (a : Byte) (s : State) : Result := accBinary eorOp .a (.mem (.dir a)) s

/-- ORAA, direct, $9A (R237). -/
def execOraaDir (a : Byte) (s : State) : Result := accBinary oraOp .a (.mem (.dir a)) s

/-- ANDA, indexed, $A4 (R231). -/
def execAndaIdx (off : Byte) (s : State) : Result := accBinary andOp .a (.mem (.idx off)) s

/-- BITA, indexed, $A5 (R233). -/
def execBitaIdx (off : Byte) (s : State) : Result := accCompare andOp .a (.mem (.idx off)) s

/-- LDAA, indexed, $A6 (R259). -/
def execLdaaIdx (off : Byte) (s : State) : Result := accBinary ldaOp .a (.mem (.idx off)) s

/-- STAA, indexed, $A7 (R262). -/
def execStaaIdx (off : Byte) (s : State) : Result := storeAcc .a (.idx off) s

/-- EORA, indexed, $A8 (R235). -/
def execEoraIdx (off : Byte) (s : State) : Result := accBinary eorOp .a (.mem (.idx off)) s

/-- ORAA, indexed, $AA (R237). -/
def execOraaIdx (off : Byte) (s : State) : Result := accBinary oraOp .a (.mem (.idx off)) s

/-- ANDA, extended, $B4 (R231). -/
def execAndaExt (a : Word) (s : State) : Result := accBinary andOp .a (.mem (.ext a)) s

/-- BITA, extended, $B5 (R233). -/
def execBitaExt (a : Word) (s : State) : Result := accCompare andOp .a (.mem (.ext a)) s

/-- LDAA, extended, $B6 (R259). -/
def execLdaaExt (a : Word) (s : State) : Result := accBinary ldaOp .a (.mem (.ext a)) s

/-- STAA, extended, $B7 (R262). -/
def execStaaExt (a : Word) (s : State) : Result := storeAcc .a (.ext a) s

/-- EORA, extended, $B8 (R235). -/
def execEoraExt (a : Word) (s : State) : Result := accBinary eorOp .a (.mem (.ext a)) s

/-- ORAA, extended, $BA (R237). -/
def execOraaExt (a : Word) (s : State) : Result := accBinary oraOp .a (.mem (.ext a)) s

/-- ANDB, immediate, $C4 (R232). -/
def execAndbImm (m : Byte) (s : State) : Result := accBinary andOp .b (.imm m) s

/-- BITB, immediate, $C5 (R234). -/
def execBitbImm (m : Byte) (s : State) : Result := accCompare andOp .b (.imm m) s

/-- LDAB, immediate, $C6 (R260). -/
def execLdabImm (m : Byte) (s : State) : Result := accBinary ldaOp .b (.imm m) s

/-- EORB, immediate, $C8 (R236). -/
def execEorbImm (m : Byte) (s : State) : Result := accBinary eorOp .b (.imm m) s

/-- ORAB, immediate, $CA (R238). -/
def execOrabImm (m : Byte) (s : State) : Result := accBinary oraOp .b (.imm m) s

/-- LDD, immediate, $CC (R261). -/
def execLddImm (m : Word) (s : State) : Result := loadReg16 .d (.imm m) s

/-- ANDB, direct, $D4 (R232). -/
def execAndbDir (a : Byte) (s : State) : Result := accBinary andOp .b (.mem (.dir a)) s

/-- BITB, direct, $D5 (R234). -/
def execBitbDir (a : Byte) (s : State) : Result := accCompare andOp .b (.mem (.dir a)) s

/-- LDAB, direct, $D6 (R260). -/
def execLdabDir (a : Byte) (s : State) : Result := accBinary ldaOp .b (.mem (.dir a)) s

/-- STAB, direct, $D7 (R263). -/
def execStabDir (a : Byte) (s : State) : Result := storeAcc .b (.dir a) s

/-- EORB, direct, $D8 (R236). -/
def execEorbDir (a : Byte) (s : State) : Result := accBinary eorOp .b (.mem (.dir a)) s

/-- ORAB, direct, $DA (R238). -/
def execOrabDir (a : Byte) (s : State) : Result := accBinary oraOp .b (.mem (.dir a)) s

/-- LDD, direct, $DC (R261). -/
def execLddDir (a : Byte) (s : State) : Result := loadReg16 .d (.mem (.dir a)) s

/-- STD, direct, $DD (R264). -/
def execStdDir (a : Byte) (s : State) : Result := storeReg16 .d (.dir a) s

/-- ANDB, indexed, $E4 (R232). -/
def execAndbIdx (off : Byte) (s : State) : Result := accBinary andOp .b (.mem (.idx off)) s

/-- BITB, indexed, $E5 (R234). -/
def execBitbIdx (off : Byte) (s : State) : Result := accCompare andOp .b (.mem (.idx off)) s

/-- LDAB, indexed, $E6 (R260). -/
def execLdabIdx (off : Byte) (s : State) : Result := accBinary ldaOp .b (.mem (.idx off)) s

/-- STAB, indexed, $E7 (R263). -/
def execStabIdx (off : Byte) (s : State) : Result := storeAcc .b (.idx off) s

/-- EORB, indexed, $E8 (R236). -/
def execEorbIdx (off : Byte) (s : State) : Result := accBinary eorOp .b (.mem (.idx off)) s

/-- ORAB, indexed, $EA (R238). -/
def execOrabIdx (off : Byte) (s : State) : Result := accBinary oraOp .b (.mem (.idx off)) s

/-- LDD, indexed, $EC (R261). -/
def execLddIdx (off : Byte) (s : State) : Result := loadReg16 .d (.mem (.idx off)) s

/-- STD, indexed, $ED (R264). -/
def execStdIdx (off : Byte) (s : State) : Result := storeReg16 .d (.idx off) s

/-- ANDB, extended, $F4 (R232). -/
def execAndbExt (a : Word) (s : State) : Result := accBinary andOp .b (.mem (.ext a)) s

/-- BITB, extended, $F5 (R234). -/
def execBitbExt (a : Word) (s : State) : Result := accCompare andOp .b (.mem (.ext a)) s

/-- LDAB, extended, $F6 (R260). -/
def execLdabExt (a : Word) (s : State) : Result := accBinary ldaOp .b (.mem (.ext a)) s

/-- STAB, extended, $F7 (R263). -/
def execStabExt (a : Word) (s : State) : Result := storeAcc .b (.ext a) s

/-- EORB, extended, $F8 (R236). -/
def execEorbExt (a : Word) (s : State) : Result := accBinary eorOp .b (.mem (.ext a)) s

/-- ORAB, extended, $FA (R238). -/
def execOrabExt (a : Word) (s : State) : Result := accBinary oraOp .b (.mem (.ext a)) s

/-- LDD, extended, $FC (R261). -/
def execLddExt (a : Word) (s : State) : Result := loadReg16 .d (.mem (.ext a)) s

/-- STD, extended, $FD (R264). -/
def execStdExt (a : Word) (s : State) : Result := storeReg16 .d (.ext a) s

end Sys2Proof.Machine
end

