-- ==== Sys2Proof/Machine/TestOpcodes.lean ====
section
/-! DEFINITION. The meanings of the two test opcodes (45_test_and_unassigned). One definition per row of the
opcode table; each starts where the last byte of the instruction has been fetched. -/

namespace Sys2Proof.Machine

/-- The test opcode $4E (R340): from now on PC counts until RESET. -/
def execTest4E (s : State) : Result := .next { s with run := .testCount }

/-- The test opcode $5E (R340): from now on PC counts until RESET. -/
def execTest5E (s : State) : Result := .next { s with run := .testCount }

end Sys2Proof.Machine
end

