-- ==== Sys2Proof/Machine/Dispatch.lean ====
section
/-! DEFINITION. Execution: one arm for each constructor of `Instr`, each a call of its meaning. -/

namespace Sys2Proof.Machine

def exec (i : Instr) (s : State) : Host.Outcome State Fault Refusal :=
  match i with
  | .nop => Sys2Proof.Machine.execNop s
  | .lsrd => Sys2Proof.Machine.execLsrd s
  | .asld => Sys2Proof.Machine.execAsld s
  | .tap => Sys2Proof.Machine.execTap s
  | .tpa => Sys2Proof.Machine.execTpa s
  | .inx => Sys2Proof.Machine.execInx s
  | .dex => Sys2Proof.Machine.execDex s
  | .clv => Sys2Proof.Machine.execClv s
  | .sev => Sys2Proof.Machine.execSev s
  | .clc => Sys2Proof.Machine.execClc s
  | .sec => Sys2Proof.Machine.execSec s
  | .cli => Sys2Proof.Machine.execCli s
  | .sei => Sys2Proof.Machine.execSei s
  | .sba => Sys2Proof.Machine.execSba s
  | .cba => Sys2Proof.Machine.execCba s
  | .tab => Sys2Proof.Machine.execTab s
  | .tba => Sys2Proof.Machine.execTba s
  | .daa => Sys2Proof.Machine.execDaa s
  | .aba => Sys2Proof.Machine.execAba s
  | .bra rel => Sys2Proof.Machine.execBra rel s
  | .brn rel => Sys2Proof.Machine.execBrn rel s
  | .bhi rel => Sys2Proof.Machine.execBhi rel s
  | .bls rel => Sys2Proof.Machine.execBls rel s
  | .bcc rel => Sys2Proof.Machine.execBcc rel s
  | .bcs rel => Sys2Proof.Machine.execBcs rel s
  | .bne rel => Sys2Proof.Machine.execBne rel s
  | .beq rel => Sys2Proof.Machine.execBeq rel s
  | .bvc rel => Sys2Proof.Machine.execBvc rel s
  | .bvs rel => Sys2Proof.Machine.execBvs rel s
  | .bpl rel => Sys2Proof.Machine.execBpl rel s
  | .bmi rel => Sys2Proof.Machine.execBmi rel s
  | .bge rel => Sys2Proof.Machine.execBge rel s
  | .blt rel => Sys2Proof.Machine.execBlt rel s
  | .bgt rel => Sys2Proof.Machine.execBgt rel s
  | .ble rel => Sys2Proof.Machine.execBle rel s
  | .tsx => Sys2Proof.Machine.execTsx s
  | .ins => Sys2Proof.Machine.execIns s
  | .pula => Sys2Proof.Machine.execPula s
  | .pulb => Sys2Proof.Machine.execPulb s
  | .des => Sys2Proof.Machine.execDes s
  | .txs => Sys2Proof.Machine.execTxs s
  | .psha => Sys2Proof.Machine.execPsha s
  | .pshb => Sys2Proof.Machine.execPshb s
  | .pulx => Sys2Proof.Machine.execPulx s
  | .rts => Sys2Proof.Machine.execRts s
  | .abx => Sys2Proof.Machine.execAbx s
  | .rti => Sys2Proof.Machine.execRti s
  | .pshx => Sys2Proof.Machine.execPshx s
  | .mul => Sys2Proof.Machine.execMul s
  | .wai => Sys2Proof.Machine.execWai s
  | .swi => Sys2Proof.Machine.execSwi s
  | .nega => Sys2Proof.Machine.execNega s
  | .coma => Sys2Proof.Machine.execComa s
  | .lsra => Sys2Proof.Machine.execLsra s
  | .rora => Sys2Proof.Machine.execRora s
  | .asra => Sys2Proof.Machine.execAsra s
  | .asla => Sys2Proof.Machine.execAsla s
  | .rola => Sys2Proof.Machine.execRola s
  | .deca => Sys2Proof.Machine.execDeca s
  | .inca => Sys2Proof.Machine.execInca s
  | .tsta => Sys2Proof.Machine.execTsta s
  | .test4E => Sys2Proof.Machine.execTest4E s
  | .clra => Sys2Proof.Machine.execClra s
  | .negb => Sys2Proof.Machine.execNegb s
  | .comb => Sys2Proof.Machine.execComb s
  | .lsrb => Sys2Proof.Machine.execLsrb s
  | .rorb => Sys2Proof.Machine.execRorb s
  | .asrb => Sys2Proof.Machine.execAsrb s
  | .aslb => Sys2Proof.Machine.execAslb s
  | .rolb => Sys2Proof.Machine.execRolb s
  | .decb => Sys2Proof.Machine.execDecb s
  | .incb => Sys2Proof.Machine.execIncb s
  | .tstb => Sys2Proof.Machine.execTstb s
  | .test5E => Sys2Proof.Machine.execTest5E s
  | .clrb => Sys2Proof.Machine.execClrb s
  | .negIdx off => Sys2Proof.Machine.execNegIdx off s
  | .comIdx off => Sys2Proof.Machine.execComIdx off s
  | .lsrIdx off => Sys2Proof.Machine.execLsrIdx off s
  | .rorIdx off => Sys2Proof.Machine.execRorIdx off s
  | .asrIdx off => Sys2Proof.Machine.execAsrIdx off s
  | .aslIdx off => Sys2Proof.Machine.execAslIdx off s
  | .rolIdx off => Sys2Proof.Machine.execRolIdx off s
  | .decIdx off => Sys2Proof.Machine.execDecIdx off s
  | .incIdx off => Sys2Proof.Machine.execIncIdx off s
  | .tstIdx off => Sys2Proof.Machine.execTstIdx off s
  | .jmpIdx off => Sys2Proof.Machine.execJmpIdx off s
  | .clrIdx off => Sys2Proof.Machine.execClrIdx off s
  | .negExt a => Sys2Proof.Machine.execNegExt a s
  | .comExt a => Sys2Proof.Machine.execComExt a s
  | .lsrExt a => Sys2Proof.Machine.execLsrExt a s
  | .rorExt a => Sys2Proof.Machine.execRorExt a s
  | .asrExt a => Sys2Proof.Machine.execAsrExt a s
  | .aslExt a => Sys2Proof.Machine.execAslExt a s
  | .rolExt a => Sys2Proof.Machine.execRolExt a s
  | .decExt a => Sys2Proof.Machine.execDecExt a s
  | .incExt a => Sys2Proof.Machine.execIncExt a s
  | .tstExt a => Sys2Proof.Machine.execTstExt a s
  | .jmpExt a => Sys2Proof.Machine.execJmpExt a s
  | .clrExt a => Sys2Proof.Machine.execClrExt a s
  | .subaImm m => Sys2Proof.Machine.execSubaImm m s
  | .cmpaImm m => Sys2Proof.Machine.execCmpaImm m s
  | .sbcaImm m => Sys2Proof.Machine.execSbcaImm m s
  | .subdImm m => Sys2Proof.Machine.execSubdImm m s
  | .andaImm m => Sys2Proof.Machine.execAndaImm m s
  | .bitaImm m => Sys2Proof.Machine.execBitaImm m s
  | .ldaaImm m => Sys2Proof.Machine.execLdaaImm m s
  | .eoraImm m => Sys2Proof.Machine.execEoraImm m s
  | .adcaImm m => Sys2Proof.Machine.execAdcaImm m s
  | .oraaImm m => Sys2Proof.Machine.execOraaImm m s
  | .addaImm m => Sys2Proof.Machine.execAddaImm m s
  | .cpxImm m => Sys2Proof.Machine.execCpxImm m s
  | .bsr rel => Sys2Proof.Machine.execBsr rel s
  | .ldsImm m => Sys2Proof.Machine.execLdsImm m s
  | .subaDir a => Sys2Proof.Machine.execSubaDir a s
  | .cmpaDir a => Sys2Proof.Machine.execCmpaDir a s
  | .sbcaDir a => Sys2Proof.Machine.execSbcaDir a s
  | .subdDir a => Sys2Proof.Machine.execSubdDir a s
  | .andaDir a => Sys2Proof.Machine.execAndaDir a s
  | .bitaDir a => Sys2Proof.Machine.execBitaDir a s
  | .ldaaDir a => Sys2Proof.Machine.execLdaaDir a s
  | .staaDir a => Sys2Proof.Machine.execStaaDir a s
  | .eoraDir a => Sys2Proof.Machine.execEoraDir a s
  | .adcaDir a => Sys2Proof.Machine.execAdcaDir a s
  | .oraaDir a => Sys2Proof.Machine.execOraaDir a s
  | .addaDir a => Sys2Proof.Machine.execAddaDir a s
  | .cpxDir a => Sys2Proof.Machine.execCpxDir a s
  | .jsrDir a => Sys2Proof.Machine.execJsrDir a s
  | .ldsDir a => Sys2Proof.Machine.execLdsDir a s
  | .stsDir a => Sys2Proof.Machine.execStsDir a s
  | .subaIdx off => Sys2Proof.Machine.execSubaIdx off s
  | .cmpaIdx off => Sys2Proof.Machine.execCmpaIdx off s
  | .sbcaIdx off => Sys2Proof.Machine.execSbcaIdx off s
  | .subdIdx off => Sys2Proof.Machine.execSubdIdx off s
  | .andaIdx off => Sys2Proof.Machine.execAndaIdx off s
  | .bitaIdx off => Sys2Proof.Machine.execBitaIdx off s
  | .ldaaIdx off => Sys2Proof.Machine.execLdaaIdx off s
  | .staaIdx off => Sys2Proof.Machine.execStaaIdx off s
  | .eoraIdx off => Sys2Proof.Machine.execEoraIdx off s
  | .adcaIdx off => Sys2Proof.Machine.execAdcaIdx off s
  | .oraaIdx off => Sys2Proof.Machine.execOraaIdx off s
  | .addaIdx off => Sys2Proof.Machine.execAddaIdx off s
  | .cpxIdx off => Sys2Proof.Machine.execCpxIdx off s
  | .jsrIdx off => Sys2Proof.Machine.execJsrIdx off s
  | .ldsIdx off => Sys2Proof.Machine.execLdsIdx off s
  | .stsIdx off => Sys2Proof.Machine.execStsIdx off s
  | .subaExt a => Sys2Proof.Machine.execSubaExt a s
  | .cmpaExt a => Sys2Proof.Machine.execCmpaExt a s
  | .sbcaExt a => Sys2Proof.Machine.execSbcaExt a s
  | .subdExt a => Sys2Proof.Machine.execSubdExt a s
  | .andaExt a => Sys2Proof.Machine.execAndaExt a s
  | .bitaExt a => Sys2Proof.Machine.execBitaExt a s
  | .ldaaExt a => Sys2Proof.Machine.execLdaaExt a s
  | .staaExt a => Sys2Proof.Machine.execStaaExt a s
  | .eoraExt a => Sys2Proof.Machine.execEoraExt a s
  | .adcaExt a => Sys2Proof.Machine.execAdcaExt a s
  | .oraaExt a => Sys2Proof.Machine.execOraaExt a s
  | .addaExt a => Sys2Proof.Machine.execAddaExt a s
  | .cpxExt a => Sys2Proof.Machine.execCpxExt a s
  | .jsrExt a => Sys2Proof.Machine.execJsrExt a s
  | .ldsExt a => Sys2Proof.Machine.execLdsExt a s
  | .stsExt a => Sys2Proof.Machine.execStsExt a s
  | .subbImm m => Sys2Proof.Machine.execSubbImm m s
  | .cmpbImm m => Sys2Proof.Machine.execCmpbImm m s
  | .sbcbImm m => Sys2Proof.Machine.execSbcbImm m s
  | .adddImm m => Sys2Proof.Machine.execAdddImm m s
  | .andbImm m => Sys2Proof.Machine.execAndbImm m s
  | .bitbImm m => Sys2Proof.Machine.execBitbImm m s
  | .ldabImm m => Sys2Proof.Machine.execLdabImm m s
  | .eorbImm m => Sys2Proof.Machine.execEorbImm m s
  | .adcbImm m => Sys2Proof.Machine.execAdcbImm m s
  | .orabImm m => Sys2Proof.Machine.execOrabImm m s
  | .addbImm m => Sys2Proof.Machine.execAddbImm m s
  | .lddImm m => Sys2Proof.Machine.execLddImm m s
  | .ldxImm m => Sys2Proof.Machine.execLdxImm m s
  | .subbDir a => Sys2Proof.Machine.execSubbDir a s
  | .cmpbDir a => Sys2Proof.Machine.execCmpbDir a s
  | .sbcbDir a => Sys2Proof.Machine.execSbcbDir a s
  | .adddDir a => Sys2Proof.Machine.execAdddDir a s
  | .andbDir a => Sys2Proof.Machine.execAndbDir a s
  | .bitbDir a => Sys2Proof.Machine.execBitbDir a s
  | .ldabDir a => Sys2Proof.Machine.execLdabDir a s
  | .stabDir a => Sys2Proof.Machine.execStabDir a s
  | .eorbDir a => Sys2Proof.Machine.execEorbDir a s
  | .adcbDir a => Sys2Proof.Machine.execAdcbDir a s
  | .orabDir a => Sys2Proof.Machine.execOrabDir a s
  | .addbDir a => Sys2Proof.Machine.execAddbDir a s
  | .lddDir a => Sys2Proof.Machine.execLddDir a s
  | .stdDir a => Sys2Proof.Machine.execStdDir a s
  | .ldxDir a => Sys2Proof.Machine.execLdxDir a s
  | .stxDir a => Sys2Proof.Machine.execStxDir a s
  | .subbIdx off => Sys2Proof.Machine.execSubbIdx off s
  | .cmpbIdx off => Sys2Proof.Machine.execCmpbIdx off s
  | .sbcbIdx off => Sys2Proof.Machine.execSbcbIdx off s
  | .adddIdx off => Sys2Proof.Machine.execAdddIdx off s
  | .andbIdx off => Sys2Proof.Machine.execAndbIdx off s
  | .bitbIdx off => Sys2Proof.Machine.execBitbIdx off s
  | .ldabIdx off => Sys2Proof.Machine.execLdabIdx off s
  | .stabIdx off => Sys2Proof.Machine.execStabIdx off s
  | .eorbIdx off => Sys2Proof.Machine.execEorbIdx off s
  | .adcbIdx off => Sys2Proof.Machine.execAdcbIdx off s
  | .orabIdx off => Sys2Proof.Machine.execOrabIdx off s
  | .addbIdx off => Sys2Proof.Machine.execAddbIdx off s
  | .lddIdx off => Sys2Proof.Machine.execLddIdx off s
  | .stdIdx off => Sys2Proof.Machine.execStdIdx off s
  | .ldxIdx off => Sys2Proof.Machine.execLdxIdx off s
  | .stxIdx off => Sys2Proof.Machine.execStxIdx off s
  | .subbExt a => Sys2Proof.Machine.execSubbExt a s
  | .cmpbExt a => Sys2Proof.Machine.execCmpbExt a s
  | .sbcbExt a => Sys2Proof.Machine.execSbcbExt a s
  | .adddExt a => Sys2Proof.Machine.execAdddExt a s
  | .andbExt a => Sys2Proof.Machine.execAndbExt a s
  | .bitbExt a => Sys2Proof.Machine.execBitbExt a s
  | .ldabExt a => Sys2Proof.Machine.execLdabExt a s
  | .stabExt a => Sys2Proof.Machine.execStabExt a s
  | .eorbExt a => Sys2Proof.Machine.execEorbExt a s
  | .adcbExt a => Sys2Proof.Machine.execAdcbExt a s
  | .orabExt a => Sys2Proof.Machine.execOrabExt a s
  | .addbExt a => Sys2Proof.Machine.execAddbExt a s
  | .lddExt a => Sys2Proof.Machine.execLddExt a s
  | .stdExt a => Sys2Proof.Machine.execStdExt a s
  | .ldxExt a => Sys2Proof.Machine.execLdxExt a s
  | .stxExt a => Sys2Proof.Machine.execStxExt a s

end Sys2Proof.Machine
end

