-- ==== Sys2Proof/Machine/Control.lean ====
section
/-! DEFINITION. What happens at an instruction boundary in each RunState: arbitration and interrupt entry (R358 to R366),
fetch and execution (R8, R25), HALT (R372 to R374), the wait (R366), the test count (R340), and RESET and the supplies
(R440 to R443, R437). -/

namespace Sys2Proof.Machine

/-! ### Interrupts -/

/-- What can interrupt the instruction stream (R351), RESET and SWI apart. -/
inductive IrqSource where
  | nmi
  | irq1
  | icf
  | ocf
  | tof
  | sci
deriving DecidableEq, Repr

/-- The address of a source's vector (R87, R351). -/
def IrqSource.vector (src : IrqSource) : Addr :=
  match src with
  | .nmi => 0xFFFC
  | .irq1 => 0xFFF8
  | .icf => 0xFFF6
  | .ocf => 0xFFF4
  | .tof => 0xFFF2
  | .sci => 0xFFF0

/-- The request of the serial interface (R351, R423). -/
def Sci.request (k : Sci) : Bool := (k.rie && (k.rdrf || k.orfe)) || (k.tie && k.tdre)

/-- The maskable request that wins, the I bit aside (R358). -/
def State.maskableRequest (s : State) : Option IrqSource :=
  if !s.pins.irq1 then some .irq1
  else if s.timer.icf && s.timer.eici then some .icf
  else if s.timer.ocf && s.timer.eoci then some .ocf
  else if s.timer.tof && s.timer.etoi then some .tof
  else if s.sci.request then some .sci
  else none

/-- Maskable requests are not looked at: I is set, or CLI_DELAY holds them off (R29, R359). -/
def State.masked (s : State) : Bool := s.cpu.ccr.i || (s.irqHoldoff && Config.cliDelay)

/-- The arbitration of R358. -/
def State.request (s : State) : Option IrqSource :=
  if s.nmiPending then some .nmi
  else if s.masked then none
  else s.maskableRequest

/-- `take(source, vector)` (R362) in IRQ_ENTRY_CYCLES (R400): the cycles before the bus sequence, in the wait those of the
stacking that WAI has done too (log 12); the stacking unless WAI has done it; the vector. -/
def State.take (src : IrqSource) (s : State) : Result :=
  let stacked := s.run == .waiting
  let sequence := if stacked then 2 else 10
  let t := (State.ticks (Config.irqEntryCycles - sequence) { s with irqHoldoff := false }).takeException stacked src.vector
    (src == .nmi)
  guardBus (if stacked then [] else s.frameAddrs) t

/-! ### Fetch and execution -/

/-- Fetch8 (R8). -/
def State.fetch8 (s : State) : Byte × State :=
  let r := s.busRead s.cpu.pc
  (r.1, r.2.withPc (s.cpu.pc + 1))

/-- Fetch a byte and go on with it; a fetch from a reserved address stops (R59). -/
def fetchThen (k : Byte → State → Result) (s : State) : Result :=
  if isReserved s.cpu.pc then .refused (.reservedAddress s.cpu.pc)
  else k s.fetch8.1 s.fetch8.2

/-- The instruction at PC: its bytes fetched one by one (R8, R25), then its meaning; an unassigned first byte stops
(R341, D19). -/
def State.executeNext (s : State) : Result :=
  fetchThen (fun op s1 =>
    match opcodeForm op with
    | none => .fault (.unassignedOpcode op)
    | some (.one i) => exec i s1
    | some (.two f) => fetchThen (fun b s2 => exec (f b) s2) s1
    | some (.three f) => fetchThen (fun h s2 => fetchThen (fun l s3 => exec (f h l) s3) s2) s1)
    { s with irqHoldoff := false }

/-! ### The run states -/

/-- Running, at an instruction boundary: HALT first (D14), then the arbitration, then the next instruction. -/
def State.stepRunning (s : State) : Result :=
  if !s.pins.halt then .next { s with run := .halted }
  else
    match s.request with
    | some src => s.take src
    | none => s.executeNext

/-- Halted: HALT high ends it; otherwise an E cycle passes, in which another bus master may write external memory
(R95, R372, R374). -/
def State.stepHalted (s : State) : Result :=
  if s.pins.halt then .next { s with run := .running }
  else
    let t := s.tick
    match s.nextSample with
    | none => .next t
    | some x =>
      match x.dma with
      | none => .next t
      | some (a, v) => .next { t with ext := t.ext.set a.toNat v }

/-- Waiting (R366, R373): a request ends it, unless HALT is low; otherwise an E cycle passes. DESIGN CHOICE (log 35): no bus
access is made in the wait, which R318 says nothing of. -/
def State.stepWaiting (s : State) : Result :=
  if !s.pins.halt then .next s.tick
  else
    match s.request with
    | some src => s.take src
    | none => .next s.tick

/-- TestCount (R340): in each E cycle PC counts; nothing else of the MPU changes. -/
def State.stepTestCount (s : State) : Result := .next (s.tick.withPc (s.cpu.pc + 1))

/-! ### RESET -/

/-- The rising edge of RESET (R440, R442, R61): the mode and RAME are latched, every item with a reset value takes it, the
others become free values, PC comes from $FFFE, and RESET_EXIT_CYCLES pass. -/
def State.release (s : State) : State :=
  let c := s.cycles
  let s1 : State :=
    { s with
      cpu :=
        { a := Config.freeByte .resetA c, b := Config.freeByte .resetB c, x := Config.freeWord .resetX c,
          sp := Config.freeWord .resetSP c, pc := join (s.extRead 0xFFFE) (s.extRead 0xFFFF),
          ccr :=
            { h := Config.freeBit .resetH c, i := true, n := Config.freeBit .resetN c, z := Config.freeBit .resetZ c,
              v := Config.freeBit .resetV c, c := Config.freeBit .resetC c } }
      run := .running
      nmiPending := false
      irqHoldoff := false
      pc1 := s.pins.p2.getLsbD 1
      pc0 := s.pins.p2.getLsbD 0
      ports :=
        { p1ddr := 0, p1out := Config.freeByte .resetP1Out c, p2ddr := 0, p2out := low5 (Config.freeByte .resetP2Out c) }
      timer :=
        Timer.afterReset (Config.freeWord .resetIcr c) (Config.freeBit .resetOlr c) (Config.freeBit .resetP20prev c)
      sci :=
        Sci.afterReset (Config.freeByte .resetRdr c) (Config.freeByte .resetTdr c)
          ((Config.freeByte .resetIdleOnes c).toNat % 11) (s.pins.p2.getLsbD 2)
      ramcr := { s.ramcr with rame := s.pins.standby }
      resetCycles := 0 }
  State.ticks Config.resetExitCycles s1

/-- InReset (R440, R443, R444): an E cycle passes in which no device runs; the rising edge releases, after a pulse long
enough and with a mode that is defined. -/
def State.stepInReset (s : State) : Result :=
  let t := { s.sample with resetSeen := false }
  if !t.pins.vcc then .next { t with resetCycles := 0 }
  else if !t.pins.reset then .next { t with resetCycles := min 3 (s.resetCycles + 1) }
  else if s.resetCycles < 3 then .refused .shortResetPulse
  else if !t.pins.p2.getLsbD 1 then .refused .undefinedMode
  else .next t.release

/-- RESET has gone low in a step from `before` (R440, R441, D24): the device registers take their reset values, and each
byte the step wrote, and STBY PWR, is by a free choice its old or its new value. -/
def State.enterReset (before s : State) : State :=
  { s with
    run := .inReset
    ports := { s.ports with p1ddr := 0, p2ddr := 0 }
    timer := Timer.afterReset s.timer.icr s.timer.olr s.timer.p20prev
    sci := Sci.afterReset s.sci.rdr s.sci.tdr s.sci.rxIdleOnes s.sci.p22prev
    ramcr :=
      { s.ramcr with
        stbyPwr :=
          if Config.freeBit .cutStbyPwr s.cycles then s.ramcr.stbyPwr else before.ramcr.stbyPwr && !s.standbyLost }
    ext := Memory.eitherOf s.cycles before.ext s.ext ((before.ext ++ s.ext).map (·.1))
    ram := Memory.eitherOf s.cycles before.ram s.ram ((before.ram ++ s.ram).map (·.1))
    resetSeen := false
    resetCycles := if s.pins.vcc then 1 else 0 }

/-- Loss of a supply (R60, R437): $C0 to $FF lose their contents with the main supply, $80 to $BF with the standby one. -/
def State.powerEffects (s : State) : State :=
  let r1 := if s.powerLost then Memory.scramble s.cycles 0xC0 64 s.ram else s.ram
  let r2 := if s.standbyLost then Memory.scramble s.cycles 0x80 64 r1 else r1
  { s with ram := r2, powerLost := false, standbyLost := false }

/-- The end of every step from `before`: RESET and the supplies take effect. DESIGN CHOICE (log 25): a step that has met an
unassigned opcode or a reserved address stops with that, also where RESET fell in the same step (R441 leaves open when the
instruction is abandoned). -/
def settle (before : State) (r : Result) : Result :=
  match r with
  | .next t => .next (if t.resetSeen then State.enterReset before t else t).powerEffects
  | .fault f => .fault f
  | .refused q => .refused q

/-- One step before RESET and the supplies take effect. -/
def State.stepByRunState (s : State) : Result :=
  match s.run with
  | .running => s.stepRunning
  | .waiting => s.stepWaiting
  | .halted => s.stepHalted
  | .testCount => s.stepTestCount
  | .inReset => s.stepInReset

/-! ### A program from outside -/

/-- Bytes placed at consecutive addresses from `a` on, where they are stored, without a bus cycle. -/
def State.place (a : Addr) (bs : List Byte) (s : State) : State :=
  match bs with
  | [] => s
  | b :: rest => State.place (a + 1) rest (s.storeAt a b)

/-- No internal register and not reserved: internal RAM or external. -/
def State.plain (s : State) (a : Addr) : Bool := s.region a == .ram || s.region a == .external

/-- Memory, RAM or ROM: a read gives the byte held. -/
def State.readable (s : State) (a : Addr) : Bool :=
  s.region a == .ram || (s.region a == .external && s.extKind a != .other)

/-- RAM, internal or external: a read gives the byte last written. -/
def State.writable (s : State) (a : Addr) : Bool :=
  s.region a == .ram || (s.region a == .external && s.extKind a == .ram)

/-- Three bytes of RAM from an address on. -/
def State.roomAt (s : State) (a : Addr) : Bool := s.writable a && s.writable (a + 1) && s.writable (a + 2)

/-- The state with PC at RAM for a program: PC as it is if there is room, else $0100, with external RAM there. -/
def State.atProgram (s : State) : State := if s.roomAt s.cpu.pc then s else { s.withPc 0x0100 with extMap := [] }

end Sys2Proof.Machine
end

