-- ==== Sys2Proof/Machine/Step.lean ====
section
/-! DEFINITION. The step of the machine, and a program's first instruction placed from outside (log 7). -/

namespace Sys2Proof.Machine

/-- One step: an instruction, an interrupt entry, an E cycle without either, or a change of RunState that takes no time. -/
def step (s : State) : Host.Outcome State Fault Refusal := settle s s.stepByRunState

/-- The state with the instruction of the table bits `w` stored where the next step fetches: at PC, or, where PC does not
point at RAM (as after reset with no vector in memory), at $0100 with PC there (log 7). -/
def State.withFetchWord (s : State) (nbits w : Nat) : State :=
  let t := s.atProgram
  t.place t.cpu.pc (tableBytes (w % 2 ^ nbits))

end Sys2Proof.Machine
end

