-- ==== Sys2Proof/Machine/Forms.lean ====
section
/-! DEFINITION. The instructions of one shape as functions of their operation, register and operand form, for the
statements: one right-hand side for each row of the table they cover. -/

namespace Sys2Proof.Machine

/-- Two-operand operations that write the accumulator. -/
inductive BinOp where
  | add | adc | sub | sbc | and | eor | ora | lda
deriving DecidableEq, Repr

/-- Two-operand operations for their flags alone. -/
inductive CmpOp where
  | cmp | bit
deriving DecidableEq, Repr

/-- One-operand operations. -/
inductive UnOp where
  | neg | com | inc | dec | clr | asl | asr | lsr | rol | ror
deriving DecidableEq, Repr

/-- The conditions of the sixteen branches, in opcode order. -/
inductive Cond where
  | ra | rn | hi | ls | cc | cs | ne | eq | vc | vs | pl | mi | ge | lt | gt | le
deriving DecidableEq, Repr

/-- The operand forms of the read-modify-write instructions and JMP (R196, R309): no direct form. -/
inductive Far where
  | ext (a : Word)
  | idx (off : Byte)
deriving DecidableEq, Repr

/-- As a memory operand. -/
def Far.mem (o : Far) : Mem :=
  match o with
  | .ext a => .ext a
  | .idx off => .idx off

/-- ADD, ADC, SUB, SBC, AND, EOR, ORA, LDA on A and B, every form. -/
def binInstr (k : BinOp) (r : Acc) (o : Src8) : Instr :=
  match k, r, o with
  | .add, .a, .imm m => .addaImm m
  | .add, .a, .mem (.dir a) => .addaDir a
  | .add, .a, .mem (.idx off) => .addaIdx off
  | .add, .a, .mem (.ext a) => .addaExt a
  | .add, .b, .imm m => .addbImm m
  | .add, .b, .mem (.dir a) => .addbDir a
  | .add, .b, .mem (.idx off) => .addbIdx off
  | .add, .b, .mem (.ext a) => .addbExt a
  | .adc, .a, .imm m => .adcaImm m
  | .adc, .a, .mem (.dir a) => .adcaDir a
  | .adc, .a, .mem (.idx off) => .adcaIdx off
  | .adc, .a, .mem (.ext a) => .adcaExt a
  | .adc, .b, .imm m => .adcbImm m
  | .adc, .b, .mem (.dir a) => .adcbDir a
  | .adc, .b, .mem (.idx off) => .adcbIdx off
  | .adc, .b, .mem (.ext a) => .adcbExt a
  | .sub, .a, .imm m => .subaImm m
  | .sub, .a, .mem (.dir a) => .subaDir a
  | .sub, .a, .mem (.idx off) => .subaIdx off
  | .sub, .a, .mem (.ext a) => .subaExt a
  | .sub, .b, .imm m => .subbImm m
  | .sub, .b, .mem (.dir a) => .subbDir a
  | .sub, .b, .mem (.idx off) => .subbIdx off
  | .sub, .b, .mem (.ext a) => .subbExt a
  | .sbc, .a, .imm m => .sbcaImm m
  | .sbc, .a, .mem (.dir a) => .sbcaDir a
  | .sbc, .a, .mem (.idx off) => .sbcaIdx off
  | .sbc, .a, .mem (.ext a) => .sbcaExt a
  | .sbc, .b, .imm m => .sbcbImm m
  | .sbc, .b, .mem (.dir a) => .sbcbDir a
  | .sbc, .b, .mem (.idx off) => .sbcbIdx off
  | .sbc, .b, .mem (.ext a) => .sbcbExt a
  | .and, .a, .imm m => .andaImm m
  | .and, .a, .mem (.dir a) => .andaDir a
  | .and, .a, .mem (.idx off) => .andaIdx off
  | .and, .a, .mem (.ext a) => .andaExt a
  | .and, .b, .imm m => .andbImm m
  | .and, .b, .mem (.dir a) => .andbDir a
  | .and, .b, .mem (.idx off) => .andbIdx off
  | .and, .b, .mem (.ext a) => .andbExt a
  | .eor, .a, .imm m => .eoraImm m
  | .eor, .a, .mem (.dir a) => .eoraDir a
  | .eor, .a, .mem (.idx off) => .eoraIdx off
  | .eor, .a, .mem (.ext a) => .eoraExt a
  | .eor, .b, .imm m => .eorbImm m
  | .eor, .b, .mem (.dir a) => .eorbDir a
  | .eor, .b, .mem (.idx off) => .eorbIdx off
  | .eor, .b, .mem (.ext a) => .eorbExt a
  | .ora, .a, .imm m => .oraaImm m
  | .ora, .a, .mem (.dir a) => .oraaDir a
  | .ora, .a, .mem (.idx off) => .oraaIdx off
  | .ora, .a, .mem (.ext a) => .oraaExt a
  | .ora, .b, .imm m => .orabImm m
  | .ora, .b, .mem (.dir a) => .orabDir a
  | .ora, .b, .mem (.idx off) => .orabIdx off
  | .ora, .b, .mem (.ext a) => .orabExt a
  | .lda, .a, .imm m => .ldaaImm m
  | .lda, .a, .mem (.dir a) => .ldaaDir a
  | .lda, .a, .mem (.idx off) => .ldaaIdx off
  | .lda, .a, .mem (.ext a) => .ldaaExt a
  | .lda, .b, .imm m => .ldabImm m
  | .lda, .b, .mem (.dir a) => .ldabDir a
  | .lda, .b, .mem (.idx off) => .ldabIdx off
  | .lda, .b, .mem (.ext a) => .ldabExt a

/-- CMP and BIT on A and B, every form. -/
def cmpInstr (k : CmpOp) (r : Acc) (o : Src8) : Instr :=
  match k, r, o with
  | .cmp, .a, .imm m => .cmpaImm m
  | .cmp, .a, .mem (.dir a) => .cmpaDir a
  | .cmp, .a, .mem (.idx off) => .cmpaIdx off
  | .cmp, .a, .mem (.ext a) => .cmpaExt a
  | .cmp, .b, .imm m => .cmpbImm m
  | .cmp, .b, .mem (.dir a) => .cmpbDir a
  | .cmp, .b, .mem (.idx off) => .cmpbIdx off
  | .cmp, .b, .mem (.ext a) => .cmpbExt a
  | .bit, .a, .imm m => .bitaImm m
  | .bit, .a, .mem (.dir a) => .bitaDir a
  | .bit, .a, .mem (.idx off) => .bitaIdx off
  | .bit, .a, .mem (.ext a) => .bitaExt a
  | .bit, .b, .imm m => .bitbImm m
  | .bit, .b, .mem (.dir a) => .bitbDir a
  | .bit, .b, .mem (.idx off) => .bitbIdx off
  | .bit, .b, .mem (.ext a) => .bitbExt a

/-- The one-operand operations on A and B. -/
def accInstr (k : UnOp) (r : Acc) : Instr :=
  match k, r with
  | .neg, .a => .nega
  | .neg, .b => .negb
  | .com, .a => .coma
  | .com, .b => .comb
  | .inc, .a => .inca
  | .inc, .b => .incb
  | .dec, .a => .deca
  | .dec, .b => .decb
  | .clr, .a => .clra
  | .clr, .b => .clrb
  | .asl, .a => .asla
  | .asl, .b => .aslb
  | .asr, .a => .asra
  | .asr, .b => .asrb
  | .lsr, .a => .lsra
  | .lsr, .b => .lsrb
  | .rol, .a => .rola
  | .rol, .b => .rolb
  | .ror, .a => .rora
  | .ror, .b => .rorb

/-- The one-operand operations on memory. -/
def memInstr (k : UnOp) (o : Far) : Instr :=
  match k, o with
  | .neg, .ext a => .negExt a
  | .neg, .idx off => .negIdx off
  | .com, .ext a => .comExt a
  | .com, .idx off => .comIdx off
  | .inc, .ext a => .incExt a
  | .inc, .idx off => .incIdx off
  | .dec, .ext a => .decExt a
  | .dec, .idx off => .decIdx off
  | .clr, .ext a => .clrExt a
  | .clr, .idx off => .clrIdx off
  | .asl, .ext a => .aslExt a
  | .asl, .idx off => .aslIdx off
  | .asr, .ext a => .asrExt a
  | .asr, .idx off => .asrIdx off
  | .lsr, .ext a => .lsrExt a
  | .lsr, .idx off => .lsrIdx off
  | .rol, .ext a => .rolExt a
  | .rol, .idx off => .rolIdx off
  | .ror, .ext a => .rorExt a
  | .ror, .idx off => .rorIdx off

/-- TST on memory. -/
def tstInstr (o : Far) : Instr :=
  match o with
  | .ext a => .tstExt a
  | .idx off => .tstIdx off

/-- TSTA and TSTB. -/
def tstAccInstr (r : Acc) : Instr :=
  match r with
  | .a => .tsta
  | .b => .tstb

/-- STAA and STAB. -/
def storeAccInstr (r : Acc) (o : Mem) : Instr :=
  match r, o with
  | .a, .dir a => .staaDir a
  | .a, .ext a => .staaExt a
  | .a, .idx off => .staaIdx off
  | .b, .dir a => .stabDir a
  | .b, .ext a => .stabExt a
  | .b, .idx off => .stabIdx off

/-- LDX, LDS and LDD. -/
def loadInstr (r : Reg16) (o : Src16) : Instr :=
  match r, o with
  | .x, .imm m => .ldxImm m
  | .x, .mem (.dir a) => .ldxDir a
  | .x, .mem (.idx off) => .ldxIdx off
  | .x, .mem (.ext a) => .ldxExt a
  | .sp, .imm m => .ldsImm m
  | .sp, .mem (.dir a) => .ldsDir a
  | .sp, .mem (.idx off) => .ldsIdx off
  | .sp, .mem (.ext a) => .ldsExt a
  | .d, .imm m => .lddImm m
  | .d, .mem (.dir a) => .lddDir a
  | .d, .mem (.idx off) => .lddIdx off
  | .d, .mem (.ext a) => .lddExt a

/-- STX, STS and STD. -/
def storeInstr (r : Reg16) (o : Mem) : Instr :=
  match r, o with
  | .x, .dir a => .stxDir a
  | .x, .ext a => .stxExt a
  | .x, .idx off => .stxIdx off
  | .sp, .dir a => .stsDir a
  | .sp, .ext a => .stsExt a
  | .sp, .idx off => .stsIdx off
  | .d, .dir a => .stdDir a
  | .d, .ext a => .stdExt a
  | .d, .idx off => .stdIdx off

/-- ADDD, every form. -/
def adddInstr (o : Src16) : Instr :=
  match o with
  | .imm m => .adddImm m
  | .mem (.dir a) => .adddDir a
  | .mem (.idx off) => .adddIdx off
  | .mem (.ext a) => .adddExt a

/-- SUBD, every form. -/
def subdInstr (o : Src16) : Instr :=
  match o with
  | .imm m => .subdImm m
  | .mem (.dir a) => .subdDir a
  | .mem (.idx off) => .subdIdx off
  | .mem (.ext a) => .subdExt a

/-- CPX, every form. -/
def cpxInstr (o : Src16) : Instr :=
  match o with
  | .imm m => .cpxImm m
  | .mem (.dir a) => .cpxDir a
  | .mem (.idx off) => .cpxIdx off
  | .mem (.ext a) => .cpxExt a

/-- JMP. -/
def jmpInstr (o : Far) : Instr :=
  match o with
  | .ext a => .jmpExt a
  | .idx off => .jmpIdx off

/-- JSR. -/
def jsrInstr (o : Mem) : Instr :=
  match o with
  | .dir a => .jsrDir a
  | .ext a => .jsrExt a
  | .idx off => .jsrIdx off

/-- The sixteen branches. -/
def branchInstr (c : Cond) (rel : Byte) : Instr :=
  match c with
  | .ra => .bra rel
  | .rn => .brn rel
  | .hi => .bhi rel
  | .ls => .bls rel
  | .cc => .bcc rel
  | .cs => .bcs rel
  | .ne => .bne rel
  | .eq => .beq rel
  | .vc => .bvc rel
  | .vs => .bvs rel
  | .pl => .bpl rel
  | .mi => .bmi rel
  | .ge => .bge rel
  | .lt => .blt rel
  | .gt => .bgt rel
  | .le => .ble rel

/-- PSHA and PSHB. -/
def pshInstr (r : Acc) : Instr :=
  match r with
  | .a => .psha
  | .b => .pshb

/-- PULA and PULB. -/
def pulInstr (r : Acc) : Instr :=
  match r with
  | .a => .pula
  | .b => .pulb

end Sys2Proof.Machine
end

