-- ==== Sys2Proof/Machine/Timing.lean ====
section
/-! DEFINITION. Bytes and E cycles of every instruction (R450), for the statements about time; the machine itself spends
its cycles one bus access after the other (R94). -/

namespace Sys2Proof.Machine

/-- E cycles by first byte, sixteen to a line (R450); 0 for the unassigned and the test opcodes, which have none
(R341, R451 (e)). -/
def cycleTable : List Nat :=
  [0, 2, 0, 0, 3, 3, 2, 2, 3, 3, 2, 2, 2, 2, 2, 2] ++
  [2, 2, 0, 0, 0, 0, 2, 2, 0, 2, 0, 2, 0, 0, 0, 0] ++
  [3, 3, 3, 3, 3, 3, 3, 3, 3, 3, 3, 3, 3, 3, 3, 3] ++
  [3, 3, 4, 4, 3, 3, 3, 3, 5, 5, 3, 10, 4, 10, 9, 12] ++
  [2, 0, 0, 2, 2, 0, 2, 2, 2, 2, 2, 0, 2, 2, 0, 2] ++
  [2, 0, 0, 2, 2, 0, 2, 2, 2, 2, 2, 0, 2, 2, 0, 2] ++
  [6, 0, 0, 6, 6, 0, 6, 6, 6, 6, 6, 0, 6, 6, 3, 6] ++
  [6, 0, 0, 6, 6, 0, 6, 6, 6, 6, 6, 0, 6, 6, 3, 6] ++
  [2, 2, 2, 4, 2, 2, 2, 0, 2, 2, 2, 2, 4, 6, 3, 0] ++
  [3, 3, 3, 5, 3, 3, 3, 3, 3, 3, 3, 3, 5, 5, 4, 4] ++
  [4, 4, 4, 6, 4, 4, 4, 4, 4, 4, 4, 4, 6, 6, 5, 5] ++
  [4, 4, 4, 6, 4, 4, 4, 4, 4, 4, 4, 4, 6, 6, 5, 5] ++
  [2, 2, 2, 4, 2, 2, 2, 0, 2, 2, 2, 2, 3, 0, 3, 0] ++
  [3, 3, 3, 5, 3, 3, 3, 3, 3, 3, 3, 3, 4, 4, 4, 4] ++
  [4, 4, 4, 6, 4, 4, 4, 4, 4, 4, 4, 4, 5, 5, 5, 5] ++
  [4, 4, 4, 6, 4, 4, 4, 4, 4, 4, 4, 4, 5, 5, 5, 5]

/-- Bytes of an instruction (R120). -/
def instrBytes (i : Instr) : Nat := (encode i).length

/-- E cycles of an instruction (R450). -/
def instrCycles (i : Instr) : Nat :=
  match encode i with
  | [] => 0
  | op :: _ => cycleTable.getD op.toNat 0

end Sys2Proof.Machine
end

