-- ==== Sys2Proof/Safety.lean ====
section
/-! DEFINITION. The terms the statements use: what an instruction leaves alone, what it completes with, and the invariant
of the states between steps. -/

namespace Sys2Proof.Machine

/-! ### Memory -/

/-- The bytes the external memory and the internal RAM hold at an address: the model's read of one byte of memory, with no
bus cycle. -/
def State.byteAt (s : State) (a : Addr) : Byte × Byte := (s.ext.get a.toNat, s.ram.get a.toNat)

/-- The byte a program reads at an address of memory, RAM or ROM (R84, R88). -/
def State.peek (s : State) (a : Addr) : Byte := if s.region a = .ram then s.ram.get a.toNat else s.ext.get a.toNat

/-- The 16-bit value a program reads at an address of memory: high byte first (R80). -/
def State.peek16 (s : State) (a : Addr) : Word := join (s.peek a) (s.peek (a + 1))

/-- The bytes of memory at `a` after a program has written `v` there (R84, R88): a register, a reserved address, a ROM or an
address without memory keeps none. -/
def State.bytesStored (s : State) (a : Addr) (v : Byte) : Byte × Byte :=
  match s.region a with
  | .ram => (s.ext.get a.toNat, v)
  | .external =>
    match s.extKind a with
    | .ram => (v, s.ram.get a.toNat)
    | .rom => s.byteAt a
    | .other => s.byteAt a
  | .register => s.byteAt a
  | .reserved => s.byteAt a

/-- Every byte of memory is the same. -/
def SameMemory (s t : State) : Prop := ∀ a : Addr, t.byteAt a = s.byteAt a

/-- The bytes `vs` are stored at their addresses, and every other byte of memory is the same. -/
def Stores (vs : List (Addr × Byte)) (s t : State) : Prop :=
  (∀ p ∈ vs, t.byteAt p.1 = s.bytesStored p.1 p.2) ∧ (∀ a : Addr, a ∉ vs.map (·.1) → t.byteAt a = s.byteAt a)

/-! ### What time and the devices do -/

/-- A read of the address changes nothing (R91). -/
def quietRead (a : Addr) : Bool :=
  a != 0x08#16 && a != 0x09#16 && a != 0x0D#16 && a != 0x0E#16 && a != 0x11#16 && a != 0x12#16

/-- Apart from the MPU registers, the run state, the hold-off of R359 and memory, `t` is what `n` E cycles alone make of
`s`: no device has noticed anything. -/
def TimeOnly (n : Nat) (s t : State) : Prop :=
  t = { s.ticks n with cpu := t.cpu, run := t.run, irqHoldoff := t.irqHoldoff, ext := t.ext, ram := t.ram }

/-- The run state, the hold-off of R359, the mode bits and the platform's map are the same. -/
def SameControl (s t : State) : Prop :=
  t.run = s.run ∧ t.irqHoldoff = s.irqHoldoff ∧ t.pc1 = s.pc1 ∧ t.pc0 = s.pc0 ∧ t.resetCycles = s.resetCycles ∧
    t.extMap = s.extMap

/-- The ports' registers and RAME are the same. RAME is so through a loss of the standby supply too, by the model's choice
(log 27). -/
def SamePorts (s t : State) : Prop := t.ports = s.ports ∧ t.ramcr.rame = s.ramcr.rame

/-! ### How an instruction completes -/

/-- E cycles of an instruction after its bytes have been fetched. -/
def cyclesLeft (i : Instr) : Nat := instrCycles i - instrBytes i

/-- From `s`, its bytes fetched, `i` completes and stores nothing: the MPU registers become `cpu`; every byte of memory, the
ports, the run state and the mode are as before; and where its reads `reads` (the discarded ones included) touch no register
whose read has an effect, everything else is what its E cycles alone make of `s`. -/
def Completes (i : Instr) (s : State) (cpu : Cpu) (reads : List Addr) : Prop :=
  ∃ t, exec i s = .next t ∧ t.cpu = cpu ∧ SameControl s t ∧ SamePorts s t ∧ SameMemory s t ∧
    ((∀ a ∈ reads, quietRead a = true) → TimeOnly (cyclesLeft i) s t)

/-- From `s`, its bytes fetched, `i` completes and stores the bytes `vs`: as `Completes`, but for memory, and but for the
ports where `vs` is not plain memory. -/
def CompletesStoring (i : Instr) (s : State) (cpu : Cpu) (vs : List (Addr × Byte)) (reads : List Addr) : Prop :=
  ∃ t, exec i s = .next t ∧ t.cpu = cpu ∧ SameControl s t ∧ Stores vs s t ∧
    ((∀ p ∈ vs, s.plain p.1 = true) → SamePorts s t) ∧
    ((∀ a ∈ reads, quietRead a = true) → (∀ p ∈ vs, s.plain p.1 = true) → TimeOnly (cyclesLeft i) s t)

/-- `i` is refused with the first reserved address of `as`, the addresses it accesses, if there is one (R59, log 14). -/
def StopsAt (i : Instr) (s : State) (as : List Addr) : Prop :=
  ∀ a, as.find? isReserved = some a → exec i s = .refused (.reservedAddress a)

/-- E cycles of a memory operand of `n` bytes: one for each, and an idle one before them in indexed mode (R453 to R455). -/
def Mem.readCycles (o : Mem) (n : Nat) : Nat :=
  match o with
  | .dir _ => n
  | .ext _ => n
  | .idx _ => n + 1

/-- IRQ_ENTRY_CYCLES of time alone, in which an NMI that is taken is cleared before the two cycles of the vector (R362, R400,
log 12, log 30). -/
def State.entryTime (nmi : Bool) (s : State) : State :=
  let u := s.ticks (Config.irqEntryCycles - 2)
  State.ticks 2 { u with nmiPending := u.nmiPending && !nmi }

/-- The seven bytes of an interrupt's stacking, from SP downwards (R362): PC low, PC high, X low, X high, A, B, CCR. -/
def frameBytes (s : State) : List (Addr × Byte) :=
  let p := s.cpu.sp
  [(p, lo s.cpu.pc), (p - 1, hi s.cpu.pc), (p - 2, lo s.cpu.x), (p - 3, hi s.cpu.x), (p - 4, s.cpu.a), (p - 5, s.cpu.b),
    (p - 6, s.cpu.ccr.toByte)]

/-! ### The MPU registers and the arithmetic in integers -/

/-- An accumulator replaced. -/
def Cpu.setAcc (r : Acc) (v : Byte) (c : Cpu) : Cpu :=
  match r with
  | .a => { c with a := v }
  | .b => { c with b := v }

/-- A 16-bit register replaced: for D, A is the high byte and B the low byte (R22). -/
def Cpu.setReg16 (r : Reg16) (v : Word) (c : Cpu) : Cpu :=
  match r with
  | .x => { c with x := v }
  | .sp => { c with sp := v }
  | .d => { c with a := BitVec.ofNat 8 (v.toNat / 256), b := BitVec.ofNat 8 (v.toNat % 256) }

/-- The condition codes replaced. -/
def Cpu.setCcr (f : Ccr) (c : Cpu) : Cpu := { c with ccr := f }

/-- N and Z of a byte: its sign, and whether it is zero. -/
def signZero8 (f : Ccr) (r : Byte) : Ccr := { f with n := decide (r.toInt < 0), z := decide (r.toNat = 0) }

/-- N and Z of a word. -/
def signZero16 (f : Ccr) (r : Word) : Ccr := { f with n := decide (r.toInt < 0), z := decide (r.toNat = 0) }

/-- An integer fits in eight bits, two's complement. -/
def fits8 (x : Int) : Bool := decide (-128 ≤ x ∧ x ≤ 127)

/-- An integer fits in sixteen bits, two's complement. -/
def fits16 (x : Int) : Bool := decide (-32768 ≤ x ∧ x ≤ 32767)

/-- The sum of two bytes and a carry in, modulo 2^8. -/
def sum8 (a m : Byte) (c : Bool) : Byte := BitVec.ofNat 8 (a.toNat + m.toNat + c.toNat)

/-- The flags of a sum of bytes: H the carry from bit 3, V the sum does not fit as signed numbers, C it does not as unsigned
ones. -/
def sumFlags8 (f : Ccr) (a m : Byte) (c : Bool) : Ccr :=
  { signZero8 f (sum8 a m c) with
    h := decide (16 ≤ a.toNat % 16 + m.toNat % 16 + c.toNat)
    v := !fits8 (a.toInt + m.toInt + c.toNat)
    c := decide (256 ≤ a.toNat + m.toNat + c.toNat) }

/-- The difference of two bytes and a borrow in, modulo 2^8. -/
def diff8 (a m : Byte) (c : Bool) : Byte := BitVec.ofInt 8 (a.toNat - m.toNat - c.toNat)

/-- The flags of a difference of bytes: V it does not fit as signed numbers, C the borrow. -/
def diffFlags8 (f : Ccr) (a m : Byte) (c : Bool) : Ccr :=
  { signZero8 f (diff8 a m c) with
    v := !fits8 (a.toInt - m.toInt - c.toNat)
    c := decide (a.toNat < m.toNat + c.toNat) }

/-- The sum of two words, modulo 2^16. -/
def sum16 (a m : Word) : Word := BitVec.ofNat 16 (a.toNat + m.toNat)

/-- The flags of a sum of words. -/
def sumFlags16 (f : Ccr) (a m : Word) : Ccr :=
  { signZero16 f (sum16 a m) with
    v := !fits16 (a.toInt + m.toInt)
    c := decide (65536 ≤ a.toNat + m.toNat) }

/-- The difference of two words, modulo 2^16. -/
def diff16 (a m : Word) : Word := BitVec.ofInt 16 (a.toNat - m.toNat)

/-- The flags of a difference of words. -/
def diffFlags16 (f : Ccr) (a m : Word) : Ccr :=
  { signZero16 f (diff16 a m) with
    v := !fits16 (a.toInt - m.toInt)
    c := decide (a.toNat < m.toNat) }

/-- The flags of a logical result, load, store or transfer of a byte: N and Z from it, V clear. -/
def moveRef8 (f : Ccr) (r : Byte) : Ccr := { signZero8 f r with v := false }

/-- The same of a word. -/
def moveRef16 (f : Ccr) (r : Word) : Ccr := { signZero16 f r with v := false }

/-- The flags of a shift of a byte with the bit `out` shifted out: N and Z from the result, C the bit, V their difference
(R230). -/
def shiftRef8 (f : Ccr) (r : Byte) (out : Bool) : Ccr :=
  { signZero8 f r with c := out, v := decide (r.toInt < 0) != out }

/-- The same of a word. -/
def shiftRef16 (f : Ccr) (r : Word) (out : Bool) : Ccr :=
  { signZero16 f r with c := out, v := decide (r.toInt < 0) != out }

/-- The result and the flags of the one-operand operations, in integers. -/
def unRef (k : UnOp) (f : Ccr) (m : Byte) : Byte × Ccr :=
  match k with
  | .neg => (diff8 0 m false, diffFlags8 f 0 m false)
  | .com => (BitVec.ofNat 8 (255 - m.toNat), { moveRef8 f (BitVec.ofNat 8 (255 - m.toNat)) with c := true })
  | .inc =>
    (BitVec.ofNat 8 (m.toNat + 1),
      { signZero8 f (BitVec.ofNat 8 (m.toNat + 1)) with v := !fits8 (m.toInt + 1) })
  | .dec =>
    (BitVec.ofInt 8 (m.toInt - 1),
      { signZero8 f (BitVec.ofInt 8 (m.toInt - 1)) with v := !fits8 (m.toInt - 1) })
  | .clr => (0, { f with n := false, z := true, v := false, c := false })
  | .asl =>
    (BitVec.ofNat 8 (2 * m.toNat), shiftRef8 f (BitVec.ofNat 8 (2 * m.toNat)) (decide (128 ≤ m.toNat)))
  | .asr =>
    (BitVec.ofInt 8 (m.toInt / 2), shiftRef8 f (BitVec.ofInt 8 (m.toInt / 2)) (decide (m.toNat % 2 = 1)))
  | .lsr =>
    (BitVec.ofNat 8 (m.toNat / 2), shiftRef8 f (BitVec.ofNat 8 (m.toNat / 2)) (decide (m.toNat % 2 = 1)))
  | .rol =>
    (BitVec.ofNat 8 (2 * m.toNat + f.c.toNat),
      shiftRef8 f (BitVec.ofNat 8 (2 * m.toNat + f.c.toNat)) (decide (128 ≤ m.toNat)))
  | .ror =>
    (BitVec.ofNat 8 (m.toNat / 2 + 128 * f.c.toNat),
      shiftRef8 f (BitVec.ofNat 8 (m.toNat / 2 + 128 * f.c.toNat)) (decide (m.toNat % 2 = 1)))

/-- The condition of each branch (R292 to R307). -/
def condRef (c : Cond) (f : Ccr) : Bool :=
  match c with
  | .ra => true
  | .rn => false
  | .hi => decide (f.c = false ∧ f.z = false)
  | .ls => decide (f.c = true ∨ f.z = true)
  | .cc => decide (f.c = false)
  | .cs => decide (f.c = true)
  | .ne => decide (f.z = false)
  | .eq => decide (f.z = true)
  | .vc => decide (f.v = false)
  | .vs => decide (f.v = true)
  | .pl => decide (f.n = false)
  | .mi => decide (f.n = true)
  | .ge => decide (f.n = f.v)
  | .lt => decide (f.n ≠ f.v)
  | .gt => decide (f.z = false ∧ f.n = f.v)
  | .le => decide (f.z = true ∨ f.n ≠ f.v)

/-- The two decimal digits of a number below 100, in one byte. -/
def bcd (n : Nat) : Byte := BitVec.ofNat 8 (16 * (n / 10) + n % 10)

/-- The ten bits of a frame on the serial line (R415): start, eight data bits from bit 0 on, stop. -/
def frameBits (d : Byte) (stop : Bool) : List Bool :=
  [false, d.getLsbD 0, d.getLsbD 1, d.getLsbD 2, d.getLsbD 3, d.getLsbD 4, d.getLsbD 5, d.getLsbD 6, d.getLsbD 7, stop]

/-- E cycles of a bit time with the internal clock (R411). -/
def Sci.bitCycles (k : Sci) : Nat :=
  match k.ss1, k.ss0 with
  | false, false => 16
  | false, true => 128
  | true, false => 1024
  | true, true => 4096

/-- `n` bit clock edges at the transmitter, and the bit each puts on the line. -/
def Sci.edges : Nat → Sci → List Bool × Sci
  | 0, k => ([], k)
  | n + 1, k =>
    let k1 := k.transmitEdge
    let r := Sci.edges n k1
    (k1.txBit :: r.1, r.2)

/-! ### The invariant of the states between steps -/

/-- The memories are in canonical form, the internal RAM at its addresses $80 to $FF (R60). -/
def State.memoryOk (s : State) : Bool := Memory.wf s.ext && Memory.wfWithin 0x80 0xFF s.ram

/-- The serial interface's counts are in their ranges (R55, R411, R414). -/
def Sci.countsOk (k : Sci) : Bool :=
  decide (k.txBits ≤ 10) && decide (k.txPreamble ≤ 9) && decide (k.rxBits ≤ 9) && decide (k.rxIdleOnes ≤ 10) &&
    decide (k.extCount ≤ 7)

/-- The direction bits of port 2 that the serial interface controls are as it forces them (R42, R412). -/
def State.directionsOk (s : State) : Bool := s.sci.forceDdr s.ports.p2ddr == s.ports.p2ddr

/-- The mode is 2 or 3 (R5, R444). -/
def State.modeOk (s : State) : Bool := s.pc1

/-- Transfer is blocked only while ORFE is set (R420, R422). -/
def Sci.blockedOk (k : Sci) : Bool := !k.rxBlocked || k.orfe

/-- Nothing is left over of the step: RESET and the supplies have taken effect, and outside InReset RESET is high and the main
supply up (R440). -/
def State.settledOk (s : State) : Bool :=
  !s.resetSeen && !s.powerLost && !s.standbyLost && (s.run == .inReset || (s.pins.reset && s.pins.vcc)) &&
    decide (s.resetCycles ≤ 3)

/-- While RESET is low the device registers are at their reset values (R440). -/
def State.heldOk (s : State) : Bool :=
  s.run != .inReset ||
    (s.timer == Timer.afterReset s.timer.icr s.timer.olr s.timer.p20prev &&
      s.sci == Sci.afterReset s.sci.rdr s.sci.tdr s.sci.rxIdleOnes s.sci.p22prev &&
      s.ports.p1ddr == 0x00#8 && s.ports.p2ddr == 0#5)

/-- The invariant of the states between steps. -/
def State.ok (s : State) : Bool :=
  s.memoryOk && s.sci.countsOk && s.sci.blockedOk && s.directionsOk && s.modeOk && s.settledOk && s.heldOk

/-! ### Safe runs -/

/-- The next step is not a stop. -/
def State.canStep (s : State) : Prop := ∃ t, step s = .next t

/-- `n` steps run without a stop. -/
def State.runsFor : Nat → State → Prop
  | 0, _ => True
  | n + 1, s => ∃ t, step s = .next t ∧ State.runsFor n t

end Sys2Proof.Machine
end

