-- ==== Sys2Proof/Certificates/Slice0/Obligations.lean ====
section
/-! DEFINITION. The statements for the provers. `Completes` and `CompletesStoring` (Sys2Proof/Safety.lean) say that the
instruction answers a next state, its registers, and what it leaves alone. Where a statement asks that no reserved address
is touched, `ReservedAddressStops` says what happens otherwise (log 14); where it asks for `memoryOk`, `StepKeepsInvariant`
says that every step keeps it. `SamePorts` has RAME kept also where the standby supply alone is lost in the same step, which is
the model's choice (log 27). -/

open Sys2Proof Sys2Proof.Machine

/-! ### Encoding -/

/-- Words written out from the map of R124 decode to the instructions they stand for, one of each family. -/
def Obligations.SampleWordsDecode : Prop :=
  decode [0xDE#8, 0x80#8] = .ok (.ldxDir 0x80, []) ∧
  decode [0x1B#8] = .ok (.aba, []) ∧
  decode [0xF3#8, 0x20#8, 0x01#8] = .ok (.adddExt 0x2001, []) ∧
  decode [0x6C#8, 0x05#8] = .ok (.incIdx 0x05, []) ∧
  decode [0x86#8, 0xFF#8, 0x01#8] = .ok (.ldaaImm 0xFF, [0x01#8]) ∧
  decode [0x26#8, 0xF6#8] = .ok (.bne 0xF6, []) ∧
  decode [0x3F#8] = .ok (.swi, []) ∧
  decode [0x06#8] = .ok (.tap, []) ∧
  decode [0x4E#8] = .ok (.test4E, [])

/-- Decoding what the encoder writes gives the instruction back, every operand at every value, and leaves what follows. -/
def Obligations.DecodeEncode : Prop :=
  ∀ (i : Instr) (rest : List Byte), decode (encode i ++ rest) = .ok (i, rest)

/-- What decodes is the encoding of the instruction it decodes to, and that is exactly the bytes of one instruction. -/
def Obligations.DecodeOnlyEncodings : Prop :=
  ∀ (bs : List Byte) (i : Instr) (rest : List Byte), decode bs = .ok (i, rest) →
    bs = encode i ++ rest ∧ wellFormedBytes (encode i) = true

/-- The 34 first bytes R125 lists are refused by name whatever follows; each of the other 222 decodes, whatever its operand
bytes (R341, R342). -/
def Obligations.FirstBytes : Prop :=
  ∀ (op b1 b2 : Byte) (rest : List Byte),
    (op.toNat ∈ unassignedOpcodes → decode (op :: rest) = .error (.unassigned op)) ∧
    (op.toNat ∉ unassignedOpcodes → ∃ i tail, decode [op, b1, b2] = .ok (i, tail)) ∧
    unassignedOpcodes.length = 34 ∧ unassignedOpcodes.Nodup

/-! ### Steps and stops -/

/-- A step at an instruction boundary with nothing else to do runs the decoded instruction: one E cycle has passed for each of
its bytes and PC is past them (R8, R25, R94), then its meaning, then RESET and the supplies (`settle`). -/
def Obligations.StepRunsInstruction : Prop :=
  ∀ (s : State) (i : Instr) (rest : List Byte),
    s.run = .running → s.pins.halt = true → s.request = none →
    decode [s.peek s.cpu.pc, s.peek (s.cpu.pc + 1), s.peek (s.cpu.pc + 2)] = .ok (i, rest) →
    (∀ k < instrBytes i, s.readable (s.cpu.pc + BitVec.ofNat 16 k) = true) →
    step s =
      settle s (exec i
        { s.ticks (instrBytes i) with
          irqHoldoff := false
          cpu := { s.cpu with pc := s.cpu.pc + BitVec.ofNat 16 (instrBytes i) } })

/-- A step that would execute an unassigned opcode stops with its fault (R341; that it is a fault is decision D19, log 19), and
one that would fetch an opcode from a reserved address is refused (R59, log 14). -/
def Obligations.FetchStops : Prop :=
  ∀ s : State, s.run = .running → s.pins.halt = true → s.request = none →
    (s.readable s.cpu.pc = true → (s.peek s.cpu.pc).toNat ∈ unassignedOpcodes →
      step s = .fault (.unassignedOpcode (s.peek s.cpu.pc))) ∧
    (isReserved s.cpu.pc = true → step s = .refused (.reservedAddress s.cpu.pc))

/-- An instruction that accesses reserved addresses, $15 to $1F, for an operand, a result or the stack is refused with the
first of them: each form with all the addresses it accesses, and an interrupt entry with the seven it stacks to (R59, log 14).
-/
def Obligations.ReservedAddressStops : Prop :=
  (∀ a : Addr, isReserved a = true ↔ 0x15 ≤ a.toNat ∧ a.toNat ≤ 0x1F) ∧
  ∀ s : State,
    let p := s.cpu.sp
    (∀ o : Src8, (∀ k r, StopsAt (binInstr k r o) s (o.addrs s)) ∧ ∀ k r, StopsAt (cmpInstr k r o) s (o.addrs s)) ∧
    (∀ o : Src16, (∀ r, StopsAt (loadInstr r o) s (o.addrs s)) ∧ StopsAt (adddInstr o) s (o.addrs s) ∧
      StopsAt (subdInstr o) s (o.addrs s) ∧ StopsAt (cpxInstr o) s (o.addrs s)) ∧
    (∀ o : Mem, (Src8.mem o).addrs s = [o.ea s] ∧ (Src16.mem o).addrs s = [o.ea s, o.ea s + 1] ∧
      (∀ r, StopsAt (storeAccInstr r o) s [o.ea s]) ∧ (∀ r, StopsAt (storeInstr r o) s [o.ea s, o.ea s + 1]) ∧
      StopsAt (jsrInstr o) s [p, p - 1]) ∧
    (∀ o : Far, (∀ k, StopsAt (memInstr k o) s [o.mem.ea s]) ∧ StopsAt (tstInstr o) s [o.mem.ea s]) ∧
    (∀ r, StopsAt (pshInstr r) s [p]) ∧ StopsAt .pshx s [p, p - 1] ∧ (∀ rel, StopsAt (.bsr rel) s [p, p - 1]) ∧
    StopsAt .swi s [p, p - 1, p - 2, p - 3, p - 4, p - 5, p - 6] ∧
    StopsAt .wai s [p, p - 1, p - 2, p - 3, p - 4, p - 5, p - 6] ∧
    (∀ r, StopsAt (pulInstr r) s [p + 1]) ∧ StopsAt .pulx s [p + 1, p + 2] ∧ StopsAt .rts s [p + 1, p + 2] ∧
    StopsAt .rti s [p + 1, p + 2, p + 3, p + 4, p + 5, p + 6, p + 7] ∧
    (s.run = .running → s.pins.halt = true → ∀ src a, s.request = some src →
      [p, p - 1, p - 2, p - 3, p - 4, p - 5, p - 6].find? isReserved = some a →
      step s = .refused (.reservedAddress a))

/-- Effective addresses and operand values: direct is page zero, extended the address itself, indexed X plus the unsigned
offset modulo 2^16 (R128 to R130, R83); in memory the operand is the byte there, or the two bytes from there on, high byte
first (R80); where the addresses are no internal registers, reading it spends only time, one E cycle a byte and one more in
indexed mode (R453 to R455). -/
def Obligations.OperandValues : Prop :=
  ∀ (s : State),
    (∀ a : Byte, ((Mem.dir a).ea s).toNat = a.toNat) ∧
    (∀ a : Word, (Mem.ext a).ea s = a) ∧
    (∀ off : Byte, ((Mem.idx off).ea s).toNat = (s.cpu.x.toNat + off.toNat) % 65536) ∧
    (∀ m, (Src8.imm m).read s = (m, s)) ∧ (∀ m, (Src16.imm m).read s = (m, s)) ∧
    (∀ e : Mem, s.readable (e.ea s) = true → ((Src8.mem e).read s).1 = s.peek (e.ea s)) ∧
    (∀ e : Mem, s.readable (e.ea s) = true → s.readable (e.ea s + 1) = true →
      ((Src16.mem e).read s).1.toNat = 256 * (s.peek (e.ea s)).toNat + (s.peek (e.ea s + 1)).toNat) ∧
    (∀ e : Mem, s.plain (e.ea s) = true → ((Src8.mem e).read s).2 = s.ticks (e.readCycles 1)) ∧
    (∀ e : Mem, s.plain (e.ea s) = true → s.plain (e.ea s + 1) = true →
      ((Src16.mem e).read s).2 = s.ticks (e.readCycles 2))

/-! ### Arithmetic -/

/-- ADD and ADC on A and B, every form: the sum and the five flags. The set of flags is the spec's general knowledge G4
(log 18). -/
def Obligations.AddCompletes : Prop :=
  ∀ (r : Acc) (o : Src8) (s : State), (∀ a ∈ o.addrs s, isReserved a = false) →
    Completes (binInstr .add r o) s
      ((s.cpu.setAcc r (sum8 (s.acc r) (o.read s).1 false)).setCcr
        (sumFlags8 s.cpu.ccr (s.acc r) (o.read s).1 false)) (o.addrs s) ∧
    Completes (binInstr .adc r o) s
      ((s.cpu.setAcc r (sum8 (s.acc r) (o.read s).1 s.cpu.ccr.c)).setCcr
        (sumFlags8 s.cpu.ccr (s.acc r) (o.read s).1 s.cpu.ccr.c)) (o.addrs s)

/-- SUB, SBC and CMP on A and B, every form: the difference (CMP keeps the accumulator) and N, Z, V, C; H and I stay. The set
of flags is the spec's general knowledge G4 (log 18). -/
def Obligations.SubtractCompletes : Prop :=
  ∀ (r : Acc) (o : Src8) (s : State), (∀ a ∈ o.addrs s, isReserved a = false) →
    Completes (binInstr .sub r o) s
      ((s.cpu.setAcc r (diff8 (s.acc r) (o.read s).1 false)).setCcr
        (diffFlags8 s.cpu.ccr (s.acc r) (o.read s).1 false)) (o.addrs s) ∧
    Completes (binInstr .sbc r o) s
      ((s.cpu.setAcc r (diff8 (s.acc r) (o.read s).1 s.cpu.ccr.c)).setCcr
        (diffFlags8 s.cpu.ccr (s.acc r) (o.read s).1 s.cpu.ccr.c)) (o.addrs s) ∧
    Completes (cmpInstr .cmp r o) s
      (s.cpu.setCcr (diffFlags8 s.cpu.ccr (s.acc r) (o.read s).1 false)) (o.addrs s)

/-- ADDD, SUBD and CPX, every form: 16-bit sum and difference without carry in, N, Z, V, C over 16 bits; CPX keeps X. Flags: the
spec's general knowledge G7, G17 (log 18). -/
def Obligations.DoubleCompletes : Prop :=
  ∀ (o : Src16) (s : State), (∀ a ∈ o.addrs s, isReserved a = false) →
    Completes (adddInstr o) s
      ((s.cpu.setReg16 .d (sum16 s.d (o.read s).1)).setCcr (sumFlags16 s.cpu.ccr s.d (o.read s).1)) (o.addrs s) ∧
    Completes (subdInstr o) s
      ((s.cpu.setReg16 .d (diff16 s.d (o.read s).1)).setCcr (diffFlags16 s.cpu.ccr s.d (o.read s).1)) (o.addrs s) ∧
    Completes (cpxInstr o) s
      (s.cpu.setCcr (diffFlags16 s.cpu.ccr s.cpu.x (o.read s).1)) (o.addrs s)

/-- NEG, COM, INC, DEC, CLR, the shifts, the rotates and TST on A and B: result and flags in integers (`unRef`). Flags: the
spec's general knowledge G8 to G10 (log 18). -/
def Obligations.AccUnaryCompletes : Prop :=
  ∀ (r : Acc) (s : State),
    (∀ k : UnOp,
      Completes (accInstr k r) s
        ((s.cpu.setAcc r (unRef k s.cpu.ccr (s.acc r)).1).setCcr (unRef k s.cpu.ccr (s.acc r)).2) [s.cpu.pc]) ∧
    Completes (tstAccInstr r) s (s.cpu.setCcr { moveRef8 s.cpu.ccr (s.acc r) with c := false }) [s.cpu.pc]

/-- The same on memory, indexed and extended: the byte at EA is read, CLR's too, and the result written there; TST writes
nothing (R196, R207; the latter is the spec's general knowledge G18, log 18). -/
def Obligations.MemUnaryCompletes : Prop :=
  ∀ (o : Far) (s : State), s.memoryOk = true → isReserved (o.mem.ea s) = false →
    (∀ k : UnOp,
      CompletesStoring (memInstr k o) s (s.cpu.setCcr (unRef k s.cpu.ccr (o.mem.read8 s).1).2)
        [(o.mem.ea s, (unRef k s.cpu.ccr (o.mem.read8 s).1).1)] [o.mem.ea s]) ∧
    Completes (tstInstr o) s
      (s.cpu.setCcr { moveRef8 s.cpu.ccr (o.mem.read8 s).1 with c := false }) [o.mem.ea s]

/-- ABA, SBA, CBA, TAB, TBA. Flags: the spec's general knowledge G4, G5 (log 18). -/
def Obligations.AccumulatorPairCompletes : Prop :=
  ∀ s : State,
    Completes .aba s
      ((s.cpu.setAcc .a (sum8 s.cpu.a s.cpu.b false)).setCcr (sumFlags8 s.cpu.ccr s.cpu.a s.cpu.b false)) [s.cpu.pc] ∧
    Completes .sba s
      ((s.cpu.setAcc .a (diff8 s.cpu.a s.cpu.b false)).setCcr (diffFlags8 s.cpu.ccr s.cpu.a s.cpu.b false)) [s.cpu.pc] ∧
    Completes .cba s (s.cpu.setCcr (diffFlags8 s.cpu.ccr s.cpu.a s.cpu.b false)) [s.cpu.pc] ∧
    Completes .tab s ((s.cpu.setAcc .b s.cpu.a).setCcr (moveRef8 s.cpu.ccr s.cpu.a)) [s.cpu.pc] ∧
    Completes .tba s ((s.cpu.setAcc .a s.cpu.b).setCcr (moveRef8 s.cpu.ccr s.cpu.b)) [s.cpu.pc]

/-- MUL: D is the product of A and B as unsigned numbers, which fits; C is bit 7 of the product and no other flag changes. C is
the spec's general knowledge G11 (D16, log 18). -/
def Obligations.MulCompletes : Prop :=
  ∀ s : State, ∃ p : Word, p.toNat = s.cpu.a.toNat * s.cpu.b.toNat ∧
    Completes .mul s
      ((s.cpu.setReg16 .d p).setCcr { s.cpu.ccr with c := decide (128 ≤ p.toNat % 256) }) [s.cpu.pc]

/-- DAA: the correction of R213, N and Z from the result, C set by a carry and never cleared; V is some value (D15, log 17). The
correction is the spec's general knowledge G14 (log 18). -/
def Obligations.DaaCompletes : Prop :=
  ∀ s : State, ∃ v : Bool,
    let l := s.cpu.a.toNat % 16
    let u := s.cpu.a.toNat / 16
    let low := if l > 9 ∨ s.cpu.ccr.h = true then 6 else 0
    let high := if u > 9 ∨ (u > 8 ∧ l > 9) ∨ s.cpu.ccr.c = true then 96 else 0
    let sum := s.cpu.a.toNat + low + high
    let r : Byte := BitVec.ofNat 8 sum
    Completes .daa s
      ((s.cpu.setAcc .a r).setCcr
        { signZero8 s.cpu.ccr r with v := v, c := s.cpu.ccr.c || decide (256 ≤ sum) }) [s.cpu.pc]

/-- Decimal addition: ABA on two numbers of two decimal digits, and DAA after it, leave the two decimal digits of their sum in A
and the hundreds in C. This is what "Adj binary sum to BCD" asks for; the correction is the spec's general knowledge G14
(log 18). -/
def Obligations.DecimalAddition : Prop :=
  ∀ (s t : State) (x y : Nat), x < 100 → y < 100 → s.cpu.a = bcd x → s.cpu.b = bcd y → exec .aba s = .next t →
    ∃ u, exec .daa t = .next u ∧ u.cpu.a = bcd ((x + y) % 100) ∧ u.cpu.b = bcd y ∧
      u.cpu.ccr.c = decide (100 ≤ x + y)

/-! ### Logic, loads, stores -/

/-- AND, EOR, ORA, LDA and BIT on A and B, every form: N and Z from the result, V clear, C, H, I kept; BIT keeps the
accumulator. Flags: the spec's general knowledge G5 (log 18). -/
def Obligations.LogicCompletes : Prop :=
  ∀ (r : Acc) (o : Src8) (s : State), (∀ a ∈ o.addrs s, isReserved a = false) →
    Completes (binInstr .and r o) s
      ((s.cpu.setAcc r (s.acc r &&& (o.read s).1)).setCcr (moveRef8 s.cpu.ccr (s.acc r &&& (o.read s).1))) (o.addrs s) ∧
    Completes (binInstr .eor r o) s
      ((s.cpu.setAcc r (s.acc r ^^^ (o.read s).1)).setCcr (moveRef8 s.cpu.ccr (s.acc r ^^^ (o.read s).1))) (o.addrs s) ∧
    Completes (binInstr .ora r o) s
      ((s.cpu.setAcc r (s.acc r ||| (o.read s).1)).setCcr (moveRef8 s.cpu.ccr (s.acc r ||| (o.read s).1))) (o.addrs s) ∧
    Completes (binInstr .lda r o) s
      ((s.cpu.setAcc r (o.read s).1).setCcr (moveRef8 s.cpu.ccr (o.read s).1)) (o.addrs s) ∧
    Completes (cmpInstr .bit r o) s
      (s.cpu.setCcr (moveRef8 s.cpu.ccr (s.acc r &&& (o.read s).1))) (o.addrs s)

/-- LDX, LDS and LDD, every form: the register, N and Z over 16 bits, V clear. Flags: the spec's general knowledge G5
(log 18). -/
def Obligations.LoadsComplete : Prop :=
  ∀ (r : Reg16) (o : Src16) (s : State), (∀ a ∈ o.addrs s, isReserved a = false) →
    Completes (loadInstr r o) s
      ((s.cpu.setReg16 r (o.read s).1).setCcr (moveRef16 s.cpu.ccr (o.read s).1)) (o.addrs s)

/-- STAA, STAB, STX, STS and STD, every form: one byte at EA, or two, the high byte at EA and the low byte at EA + 1; N and Z
from the value, V clear; the registers stay. Flags: the spec's general knowledge G5 (log 18). -/
def Obligations.StoresComplete : Prop :=
  ∀ (o : Mem) (s : State), s.memoryOk = true → isReserved (o.ea s) = false →
    (∀ r : Acc,
      CompletesStoring (storeAccInstr r o) s (s.cpu.setCcr (moveRef8 s.cpu.ccr (s.acc r))) [(o.ea s, s.acc r)] []) ∧
    (isReserved (o.ea s + 1) = false → ∀ r : Reg16,
      CompletesStoring (storeInstr r o) s (s.cpu.setCcr (moveRef16 s.cpu.ccr (s.reg16 r)))
        [(o.ea s, BitVec.ofNat 8 ((s.reg16 r).toNat / 256)), (o.ea s + 1, BitVec.ofNat 8 ((s.reg16 r).toNat % 256))] [])

/-! ### Index register, stack pointer, stack -/

/-- ASLD and LSRD, and INX, DEX, ABX, TXS, INS, DES, TSX. INX and DEX write Z alone and the other six of the index and stack
instructions no flag (the spec's general knowledge G6; the shifts G8; log 18). -/
def Obligations.WordRegistersComplete : Prop :=
  ∀ s : State,
    Completes .asld s
      ((s.cpu.setReg16 .d (BitVec.ofNat 16 (2 * s.d.toNat))).setCcr
        (shiftRef16 s.cpu.ccr (BitVec.ofNat 16 (2 * s.d.toNat)) (decide (32768 ≤ s.d.toNat)))) [s.cpu.pc] ∧
    Completes .lsrd s
      ((s.cpu.setReg16 .d (BitVec.ofNat 16 (s.d.toNat / 2))).setCcr
        (shiftRef16 s.cpu.ccr (BitVec.ofNat 16 (s.d.toNat / 2)) (decide (s.d.toNat % 2 = 1)))) [s.cpu.pc] ∧
    Completes .inx s
      { s.cpu with
        x := BitVec.ofNat 16 (s.cpu.x.toNat + 1)
        ccr := { s.cpu.ccr with z := decide (s.cpu.x.toNat = 65535) } } [s.cpu.pc] ∧
    Completes .dex s
      { s.cpu with
        x := BitVec.ofInt 16 (s.cpu.x.toNat - 1)
        ccr := { s.cpu.ccr with z := decide (s.cpu.x.toNat = 1) } } [s.cpu.pc] ∧
    Completes .abx s { s.cpu with x := BitVec.ofNat 16 (s.cpu.x.toNat + s.cpu.b.toNat) } [s.cpu.pc] ∧
    Completes .txs s { s.cpu with sp := BitVec.ofInt 16 (s.cpu.x.toNat - 1) } [s.cpu.pc] ∧
    Completes .ins s { s.cpu with sp := BitVec.ofNat 16 (s.cpu.sp.toNat + 1) } [s.cpu.pc, s.cpu.sp] ∧
    Completes .des s { s.cpu with sp := BitVec.ofInt 16 (s.cpu.sp.toNat - 1) } [s.cpu.pc, s.cpu.sp] ∧
    Completes .tsx s { s.cpu with x := BitVec.ofNat 16 (s.cpu.sp.toNat + 1) } [s.cpu.pc, s.cpu.sp]

/-- PSHA, PSHB, PSHX: the byte at SP, or X low at SP and X high at SP - 1; SP goes down by as many; no flag. -/
def Obligations.PushesComplete : Prop :=
  ∀ s : State, s.memoryOk = true → isReserved s.cpu.sp = false →
    (∀ r : Acc,
      CompletesStoring (pshInstr r) s { s.cpu with sp := s.cpu.sp - 1 } [(s.cpu.sp, s.acc r)] [s.cpu.pc]) ∧
    (isReserved (s.cpu.sp - 1) = false →
      CompletesStoring .pshx s { s.cpu with sp := s.cpu.sp - 2 }
        [(s.cpu.sp, BitVec.ofNat 8 (s.cpu.x.toNat % 256)), (s.cpu.sp - 1, BitVec.ofNat 8 (s.cpu.x.toNat / 256))]
        [s.cpu.pc])

/-- PULA, PULB, PULX, RTS: what is read from SP + 1 on, high byte first; SP goes up by as many bytes; no flag. In memory
that is the bytes there. -/
def Obligations.PullsComplete : Prop :=
  ∀ s : State, isReserved (s.cpu.sp + 1) = false →
    (∀ r : Acc, ∃ v : Byte,
      Completes (pulInstr r) s ({ s.cpu with sp := s.cpu.sp + 1 }.setAcc r v) [s.cpu.pc, s.cpu.sp, s.cpu.sp + 1] ∧
      (s.readable (s.cpu.sp + 1) = true → v = s.peek (s.cpu.sp + 1))) ∧
    (isReserved (s.cpu.sp + 2) = false → ∃ v : Word,
      Completes .pulx s { s.cpu with sp := s.cpu.sp + 2, x := v }
        [s.cpu.pc, s.cpu.sp, s.cpu.sp + 1, s.cpu.sp + 2] ∧
      Completes .rts s { s.cpu with sp := s.cpu.sp + 2, pc := v }
        [s.cpu.pc, s.cpu.sp, s.cpu.sp + 1, s.cpu.sp + 2] ∧
      (s.readable (s.cpu.sp + 1) = true → s.readable (s.cpu.sp + 2) = true → v = s.peek16 (s.cpu.sp + 1)))

/-! ### Branches, jumps, calls, interrupts -/

/-- The sixteen branches: PC, which is past the two bytes, plus the signed displacement where the condition holds, else PC; no
flag (R291 to R307). -/
def Obligations.BranchesComplete : Prop :=
  ∀ (c : Cond) (rel : Byte) (s : State),
    Completes (branchInstr c rel) s
      { s.cpu with
        pc := if condRef c s.cpu.ccr = true then BitVec.ofInt 16 (s.cpu.pc.toNat + rel.toInt) else s.cpu.pc } []

/-- JMP: PC is the address given (extended) or X plus the unsigned offset (indexed); memory there is not read, nothing else
changes (R309). NOP: nothing changes (R312). -/
def Obligations.JumpsComplete : Prop :=
  ∀ s : State,
    (∀ a : Word, Completes (.jmpExt a) s { s.cpu with pc := a } []) ∧
    (∀ off : Byte,
      Completes (.jmpIdx off) s { s.cpu with pc := BitVec.ofNat 16 (s.cpu.x.toNat + off.toNat) } []) ∧
    Completes .nop s s.cpu [s.cpu.pc]

/-- JSR and BSR: the address of the next instruction is pushed, low byte at SP and high byte at SP - 1, and PC is the target; no
flag (R308, R310). -/
def Obligations.CallsComplete : Prop :=
  ∀ s : State, s.memoryOk = true → isReserved s.cpu.sp = false → isReserved (s.cpu.sp - 1) = false →
    (∀ o : Mem,
      CompletesStoring (jsrInstr o) s { s.cpu with pc := o.ea s, sp := s.cpu.sp - 2 }
        [(s.cpu.sp, BitVec.ofNat 8 (s.cpu.pc.toNat % 256)), (s.cpu.sp - 1, BitVec.ofNat 8 (s.cpu.pc.toNat / 256))]
        [o.ea s]) ∧
    (∀ rel : Byte,
      CompletesStoring (.bsr rel) s
        { s.cpu with pc := BitVec.ofInt 16 (s.cpu.pc.toNat + rel.toInt), sp := s.cpu.sp - 2 }
        [(s.cpu.sp, BitVec.ofNat 8 (s.cpu.pc.toNat % 256)), (s.cpu.sp - 1, BitVec.ofNat 8 (s.cpu.pc.toNat / 256))]
        [BitVec.ofInt 16 (s.cpu.pc.toNat + rel.toInt)])

/-- RTS after JSR or BSR, with the stack in RAM, leaves every MPU register as it was before the call (R308, R310,
R311). -/
def Obligations.ReturnUndoesCall : Prop :=
  ∀ (i : Instr) (s t : State), ((∃ o, i = jsrInstr o) ∨ ∃ rel, i = .bsr rel) → s.memoryOk = true →
    s.writable s.cpu.sp = true → s.writable (s.cpu.sp - 1) = true → exec i s = .next t →
    ∃ u, exec .rts t = .next u ∧ u.cpu = s.cpu ∧ SameMemory t u

/-- SWI: the seven bytes stacked, SP down by seven, I set, PC from $FFFA and $FFFB where the platform has memory there (R314).
That bits 7 and 6 of the stacked CCR are ones is decision D7 (log 33). -/
def Obligations.SwiCompletes : Prop :=
  ∀ s : State, s.memoryOk = true → s.run = .running → (∀ a ∈ s.frameAddrs, isReserved a = false) →
    ∃ t, exec .swi s = .next t ∧ Stores (frameBytes s) s t ∧ SameControl s t ∧
      t.cpu =
        { s.cpu with
          sp := s.cpu.sp - 7
          ccr := { s.cpu.ccr with i := true }
          pc := t.cpu.pc } ∧
      (s.readable 0xFFFA = true → s.readable 0xFFFB = true → t.cpu.pc = t.peek16 0xFFFA) ∧
      ((∀ a ∈ s.frameAddrs, s.plain a = true) → quietRead s.cpu.pc = true → quietRead (s.cpu.sp - 7) = true →
        SamePorts s t ∧ TimeOnly (cyclesLeft .swi) s t)

/-- WAI: the same seven bytes stacked, SP down by seven, no flag written, and the machine waits (R318).
Bits 7 and 6 of the stacked CCR: decision D7 (log 33). -/
def Obligations.WaiCompletes : Prop :=
  ∀ s : State, s.memoryOk = true → (∀ a ∈ s.frameAddrs, isReserved a = false) →
    ∃ t, exec .wai s = .next t ∧ Stores (frameBytes s) s t ∧ t.run = .waiting ∧
      t.cpu = { s.cpu with sp := s.cpu.sp - 7 } ∧ t.irqHoldoff = s.irqHoldoff ∧
      ((∀ a ∈ s.frameAddrs, s.plain a = true) → quietRead s.cpu.pc = true →
        SamePorts s t ∧ TimeOnly (cyclesLeft .wai) s t)

/-- RTI: the seven bytes pulled in the reverse order, all six flags, B, A, X, PC; SP up by seven; in memory they are the
bytes there (R313). -/
def Obligations.RtiCompletes : Prop :=
  ∀ s : State, (∀ a ∈ addrsUp 7 (s.cpu.sp + 1), isReserved a = false) →
    ∃ c : Cpu,
      Completes .rti s c ([s.cpu.pc, s.cpu.sp] ++ addrsUp 7 (s.cpu.sp + 1)) ∧ c.sp = s.cpu.sp + 7 ∧
      ((∀ a ∈ addrsUp 7 (s.cpu.sp + 1), s.readable a = true) →
        c.ccr = Ccr.ofByte (s.peek (s.cpu.sp + 1)) ∧ c.b = s.peek (s.cpu.sp + 2) ∧ c.a = s.peek (s.cpu.sp + 3) ∧
        c.x = s.peek16 (s.cpu.sp + 4) ∧ c.pc = s.peek16 (s.cpu.sp + 6))

/-- RTI is the exact inverse of the stacking: run where SWI leaves the machine, with the stack in RAM, it restores
every MPU register as it was after SWI was fetched, all six flags included (R313, R362, R365). -/
def Obligations.RtiUndoesStacking : Prop :=
  ∀ s t : State, s.memoryOk = true → (∀ a ∈ s.frameAddrs, s.writable a = true) → exec .swi s = .next t →
    ∃ u, exec .rti t = .next u ∧ u.cpu = s.cpu ∧ SameMemory t u

/-- The test opcodes: the machine counts from now on; the MPU registers stay (R340). -/
def Obligations.TestOpcodesComplete : Prop :=
  ∀ s : State, (∀ i, i = Instr.test4E ∨ i = Instr.test5E →
    ∃ t, exec i s = .next t ∧ t.run = .testCount ∧ t = { s with run := .testCount })

/-! ### Condition codes -/

/-- CLC, CLV, SEC, SEV, SEI and TPA: the named flag alone, or A alone (R330, R332 to R335, R337, R27). -/
def Obligations.ConditionCodesComplete : Prop :=
  ∀ s : State,
    Completes .clc s { s.cpu with ccr := { s.cpu.ccr with c := false } } [s.cpu.pc] ∧
    Completes .clv s { s.cpu with ccr := { s.cpu.ccr with v := false } } [s.cpu.pc] ∧
    Completes .sec s { s.cpu with ccr := { s.cpu.ccr with c := true } } [s.cpu.pc] ∧
    Completes .sev s { s.cpu with ccr := { s.cpu.ccr with v := true } } [s.cpu.pc] ∧
    Completes .sei s { s.cpu with ccr := { s.cpu.ccr with i := true } } [s.cpu.pc] ∧
    Completes .tpa s
      { s.cpu with
        a := BitVec.ofNat 8 (192 + 32 * s.cpu.ccr.h.toNat + 16 * s.cpu.ccr.i.toNat + 8 * s.cpu.ccr.n.toNat +
          4 * s.cpu.ccr.z.toNat + 2 * s.cpu.ccr.v.toNat + s.cpu.ccr.c.toNat) } [s.cpu.pc]

/-- CLI clears I alone and TAP writes all six flags from A's low bits (R331, R336). Where I goes from 1 to 0 the next boundary
is one that CLI_DELAY concerns (R359, log 11). -/
def Obligations.CliTapComplete : Prop :=
  ∀ s : State,
    (∃ t, exec .cli s = .next t ∧ t.cpu = { s.cpu with ccr := { s.cpu.ccr with i := false } } ∧
      t.irqHoldoff = s.cpu.ccr.i ∧ t.run = s.run ∧ SamePorts s t ∧ SameMemory s t ∧
      (quietRead s.cpu.pc = true → TimeOnly (cyclesLeft .cli) s t)) ∧
    (∃ t, exec .tap s = .next t ∧ t.cpu = { s.cpu with ccr := t.cpu.ccr } ∧
      t.cpu.ccr.toByte.toNat = s.cpu.a.toNat % 64 + 192 ∧
      t.irqHoldoff = (s.cpu.ccr.i && decide (s.cpu.a.toNat / 16 % 2 = 0)) ∧ t.run = s.run ∧ SamePorts s t ∧
      SameMemory s t ∧ (quietRead s.cpu.pc = true → TimeOnly (cyclesLeft .tap) s t))

/-! ### All instructions -/

/-- Every instruction but the two test opcodes takes the E cycles of R450, its bytes' fetches among them, unless RESET cuts
it. -/
def Obligations.CycleCounts : Prop :=
  ∀ (i : Instr) (s t : State), i ≠ .test4E → i ≠ .test5E → exec i s = .next t → t.resetSeen = false →
    t.cycles + instrBytes i = s.cycles + instrCycles i

/-- I is cleared by CLI, TAP and RTI only, and set by SEI, SWI, TAP and RTI only (R29); H is written by the additions ABA,
ADD, ADC and by TAP and RTI only (R28); the run state is changed by WAI, by the test opcodes and, out of a state that runs no
instruction, by SWI only (R31). -/
def Obligations.ControlWriters : Prop :=
  ∀ (i : Instr) (s t : State), exec i s = .next t →
    (s.cpu.ccr.i = true → t.cpu.ccr.i = false → i ∈ [.cli, .tap, .rti]) ∧
    (s.cpu.ccr.i = false → t.cpu.ccr.i = true → i ∈ [.sei, .swi, .tap, .rti]) ∧
    (t.cpu.ccr.h ≠ s.cpu.ccr.h →
      i ∈ [.aba, .tap, .rti] ∨ ∃ r o, i = binInstr .add r o ∨ i = binInstr .adc r o) ∧
    (t.run ≠ s.run →
      (i = .wai ∧ t.run = .waiting) ∨ ((i = .test4E ∨ i = .test5E) ∧ t.run = .testCount) ∨
        (i = .swi ∧ t.run = .running))

/-- The mode bits change at no time but in reset, so with no instruction, interrupt or wait (R33, R444); the platform's map
never changes (R4). -/
def Obligations.ModeChangesOnlyInReset : Prop :=
  ∀ s t : State, step s = .next t → t.extMap = s.extMap ∧ (s.run ≠ .inReset → t.pc1 = s.pc1 ∧ t.pc0 = s.pc0)

/-- TestCount: in each E cycle PC goes up by one, modulo 2^16, the other registers and the memory stay, whatever is requested;
RESET alone leaves it (R340, D17, log 20). -/
def Obligations.TestCountCounts : Prop :=
  ∀ s : State, s.run = .testCount →
    ∃ t, step s = .next t ∧ (t.run = .testCount ∨ t.run = .inReset) ∧
      t.cpu = { s.cpu with pc := BitVec.ofNat 16 (s.cpu.pc.toNat + 1) } ∧
      (s.nextPins.reset = true → s.nextPins.vcc = true → s.nextPins.standby = true → s.resetSeen = false →
        s.powerLost = false → s.standbyLost = false →
        t.run = .testCount ∧ SameMemory s t ∧ t.timer = s.tick.timer ∧ t.sci = s.tick.sci)

/-! ### Interrupts and HALT -/

/-- A high-to-low transition of NMI from one E cycle to the next sets NmiPending, and no time clears it (R32, R360). The
arbitration of R358: the first request of the list that stands. The order of NMI against IRQ1 and among the internal
sources is decision D5; the hold-off after CLI and TAP is log 11. -/
def Obligations.Arbitration : Prop :=
  (∀ (s : State) (preset : Bool), s.resetSeen = false →
    (s.tickWith preset).nmiPending = (s.nmiPending || (s.pins.nmi && !s.nextPins.nmi))) ∧
  ∀ s : State,
    let open_ := !s.cpu.ccr.i && !(s.irqHoldoff && Config.cliDelay)
    s.request =
      (([(IrqSource.nmi, s.nmiPending), (.irq1, open_ && !s.pins.irq1), (.icf, open_ && s.timer.icf && s.timer.eici),
        (.ocf, open_ && s.timer.ocf && s.timer.eoci), (.tof, open_ && s.timer.tof && s.timer.etoi),
        (.sci, open_ && ((s.sci.rie && (s.sci.rdrf || s.sci.orfe)) || (s.sci.tie && s.sci.tdre)))]).find? (·.2)).map (·.1)

/-- Interrupt entry from Running: the seven bytes stacked, I set, PC from the source's vector where the platform has memory
there (R362, R87, R351), RunState Running, and with the stack in memory nothing else but the time of the entry: the ports and
RAME as they were, NmiPending cleared by NMI alone, an edge in the two vector cycles kept (R360, log 30). From Waiting the
entry takes the same time (R400). The number of E cycles is log 12; bits 7 and 6 of the stacked CCR are decision D7 (log 33).
-/
def Obligations.InterruptEntry : Prop :=
  (IrqSource.nmi.vector = 0xFFFC ∧ IrqSource.irq1.vector = 0xFFF8 ∧ IrqSource.icf.vector = 0xFFF6 ∧
    IrqSource.ocf.vector = 0xFFF4 ∧ IrqSource.tof.vector = 0xFFF2 ∧ IrqSource.sci.vector = 0xFFF0) ∧
  (∀ (s : State) (src : IrqSource), s.memoryOk = true → s.run = .running → s.pins.halt = true → s.request = some src →
    (∀ a ∈ s.frameAddrs, isReserved a = false) →
    ∃ t, step s = settle s (.next t) ∧ t.run = .running ∧ Stores (frameBytes s) s t ∧
      t.cpu = { s.cpu with sp := s.cpu.sp - 7, ccr := { s.cpu.ccr with i := true }, pc := t.cpu.pc } ∧
      (s.readable src.vector = true → s.readable (src.vector + 1) = true → t.cpu.pc = t.peek16 src.vector) ∧
      ((∀ a ∈ s.frameAddrs, s.plain a = true) → quietRead (s.cpu.sp - 7) = true →
        SamePorts s t ∧
        t = { s.entryTime (src == .nmi) with cpu := t.cpu, run := .running, irqHoldoff := false, ext := t.ext, ram := t.ram })) ∧
  (∀ (s : State) (src : IrqSource), s.run = .waiting → s.pins.halt = true → s.request = some src →
    ∃ t, step s = settle s (.next t) ∧
      t = { s.entryTime (src == .nmi) with cpu := t.cpu, run := .running, irqHoldoff := false })

/-- A request that wins the arbitration ends the wait of WAI: nothing is stacked, I is set, PC comes from the vector where the
platform has memory there, the machine runs; a maskable request with I = 1 does not end it (R366). -/
def Obligations.WakeFromWait : Prop :=
  ∀ s : State, s.run = .waiting → s.pins.halt = true →
    (∀ src : IrqSource, s.request = some src →
      ∃ t, step s = settle s (.next t) ∧ t.run = .running ∧ SameMemory s t ∧ SamePorts s t ∧
        t.cpu = { s.cpu with ccr := { s.cpu.ccr with i := true }, pc := t.cpu.pc } ∧
        (s.readable src.vector = true → s.readable (src.vector + 1) = true → t.cpu.pc = s.peek16 src.vector)) ∧
    (s.cpu.ccr.i = true → s.nmiPending = false →
      ∃ t, step s = settle s (.next t) ∧ t.run = .waiting ∧ t.cpu = s.cpu)

/-- A maskable request with I = 1 does not end the wait, whatever is requested: without NMI the machine waits on, an E cycle
passes, no register and no memory changes; the same with HALT low, whatever I is (R366, R373, D14, log 28). That nothing but
the time changes, no device flag and no arming, is the model's choice: it makes no bus access in the wait (log 35). -/
def Obligations.WaitGoesOn : Prop :=
  ∀ s : State, s.run = .waiting →
    ((s.cpu.ccr.i = true ∧ s.nmiPending = false) ∨ s.pins.halt = false) →
    ∃ t, step s = settle s (.next t) ∧ t.run = .waiting ∧ t.cpu = s.cpu ∧ SameMemory s t ∧ TimeOnly 1 s t

/-- HALT low at an instruction boundary stops the machine before any request is looked at; while it is low BA is high, no
register changes, the internal RAM stays, and of external memory at most the byte another bus master writes changes; HALT high
lets it run on from the same registers (R372, R374). That HALT comes first is decision D14 (log 28); that a cycle brings at
most one byte of another bus master is the model's choice (log 29). -/
def Obligations.HaltStopsAtBoundary : Prop :=
  ∀ s : State,
    (s.run = .running → s.pins.halt = false →
      ∃ t, step s = settle s (.next t) ∧ t.run = .halted ∧ t.ba = true ∧ t.cpu = s.cpu ∧ SameMemory s t) ∧
    (s.memoryOk = true → s.run = .halted → s.pins.halt = false →
      ∃ t, step s = settle s (.next t) ∧ t.run = .halted ∧ t.ba = true ∧ t.cpu = s.cpu ∧ TimeOnly 1 s t ∧ t.ram = s.ram ∧
        ∀ a : Addr, (∀ v, s.nextSample.bind (·.dma) ≠ some (a, v)) → t.byteAt a = s.byteAt a) ∧
    (s.run = .halted → s.pins.halt = true →
      ∃ t, step s = settle s (.next t) ∧ t.run = .running ∧ t.cpu = s.cpu ∧ SameMemory s t)

/-- The boundary after I changes (R359): after a CLI that clears I, a maskable request waits for CLI_DELAY instructions, 0 or 1;
after an RTI it does not wait; after SEI none is taken (R334). -/
def Obligations.BoundaryAfterMaskChange : Prop :=
  ∀ s t : State,
    (exec .cli s = .next t → s.cpu.ccr.i = true → t.nmiPending = false →
      t.request = if Config.cliDelay = true then none else t.maskableRequest) ∧
    (exec .rti s = .next t → s.irqHoldoff = false → t.cpu.ccr.i = false → t.nmiPending = false →
      t.request = t.maskableRequest) ∧
    (exec .sei s = .next t → t.nmiPending = false → t.request = none)

/-! ### RESET -/

/-- The values R61 gives after reset; PC comes from $FFFE and $FFFF (R30). RunState, NmiPending and I there are decisions D1 and
D2; MODE and STANDBY_OK are log 6. -/
def Obligations.ResetValues : Prop :=
  let s := State.reset
  s.cpu.pc = join (s.ext.get 0xFFFE) (s.ext.get 0xFFFF) ∧ s.cpu.ccr.i = true ∧ s.run = .running ∧ s.nmiPending = false ∧
  s.ports.p1ddr = 0x00 ∧ s.ports.p2ddr = 0 ∧ s.timer.tcsr = 0x00 ∧ s.timer.cnt = 0x0000 ∧ s.timer.ocr = 0xFFFF ∧
  s.timer.ocInhibit = false ∧ s.timer.icInhibit = false ∧ s.timer.armTof = false ∧ s.timer.armOcf = false ∧
  s.timer.armIcf = false ∧ s.sci.trcsr = 0x20 ∧
  s.sci.cc1 = false ∧ s.sci.cc0 = false ∧ s.sci.ss1 = false ∧ s.sci.ss0 = false ∧ s.sci.txBits = 0 ∧
  s.sci.txPreamble = 0 ∧ s.sci.rxBits = 0 ∧ s.sci.rxBlocked = false ∧ s.mode = 2 ∧ s.ramcr.rame = true

/-- The rising edge of RESET after at least three E cycles, P21 high (R440, R442, R444): MODE from P21 and P20, RAME from the
standby supply, clear without it (decision D12, log 33), I set, PC from $FFFE and $FFFF, the device registers at their reset
values but for the time since, the memory, and STBY PWR unless the standby supply is lost, as before; the machine runs. That I
is set is decision D1. -/
def Obligations.ResetRelease : Prop :=
  ∀ s : State, s.run = .inReset → s.resetCycles = 3 → s.nextPins.reset = true → s.nextPins.vcc = true →
    s.nextPins.p2.getLsbD 1 = true →
    ∃ t, step s = settle s (.next t) ∧ t.run = .running ∧ t.pc1 = true ∧ t.pc0 = s.nextPins.p2.getLsbD 0 ∧
      t.ramcr.rame = s.nextPins.standby ∧ t.cpu.ccr.i = true ∧
      (s.readable 0xFFFE = true → s.readable 0xFFFF = true → t.cpu.pc = s.peek16 0xFFFE) ∧ t.ports.p1ddr = 0 ∧ t.ports.p2ddr = 0 ∧
      t.timer.ocr = 0xFFFF ∧ t.timer.eici = false ∧ t.timer.eoci = false ∧ t.timer.etoi = false ∧ t.timer.iedg = false ∧
      t.timer.olvl = false ∧ t.sci.trcsr = 0x20 ∧ t.sci.cc1 = false ∧ t.sci.cc0 = false ∧ t.sci.ss1 = false ∧
      t.sci.ss0 = false ∧ SameMemory s t ∧
      (s.inputs.length ≤ 1 → t.ramcr.stbyPwr = (s.ramcr.stbyPwr && s.nextPins.standby)) ∧
      (t.resetSeen = false →
        t.timer.cnt = BitVec.ofNat 16 Config.resetExitCycles ∧ t.cycles = s.cycles + 1 + Config.resetExitCycles)

/-- RESET low in a step of any run state takes the machine to InReset at the end of that step, the device registers, RMCR
among them, at their reset values, and every byte of memory, and STBY PWR, at its value before the step or at what the step
made of it (R440, R441, D24, log 25). A supply down in a step: the bytes of internal RAM it powers, $80 to $BF of the standby
and $C0 to $FF of the main supply, are free at the end of the step, and every other byte is not (R60, R437, log 27); the cycle
in which the standby supply is down clears STBY PWR (R57). -/
def Obligations.ResetCutsTheStep : Prop :=
  (∀ s r : State, s.memoryOk = true → s.stepByRunState = .next r →
    ∃ t, step s = .next t ∧
      (r.resetSeen = true →
        t.run = .inReset ∧ t.ports.p1ddr = 0 ∧ t.ports.p2ddr = 0 ∧ t.timer.cnt = 0 ∧ t.timer.tcsr = 0x00 ∧
        t.timer.ocr = 0xFFFF ∧ t.sci.trcsr = 0x20 ∧ t.sci.cc1 = false ∧ t.sci.cc0 = false ∧ t.sci.ss1 = false ∧
        t.sci.ss0 = false ∧
        (t.ramcr.stbyPwr = r.ramcr.stbyPwr ∨ t.ramcr.stbyPwr = (s.ramcr.stbyPwr && !r.standbyLost))) ∧
      ∀ a : Addr,
        let lost := (0xC0 ≤ a.toNat ∧ a.toNat ≤ 0xFF ∧ r.powerLost = true) ∨
          (0x80 ≤ a.toNat ∧ a.toNat ≤ 0xBF ∧ r.standbyLost = true)
        ((t.byteAt a).1 = (r.byteAt a).1 ∨ (r.resetSeen = true ∧ (t.byteAt a).1 = (s.byteAt a).1)) ∧
        (lost → (t.byteAt a).2 = Config.freeCell r.cycles a.toNat) ∧
        (¬lost → (t.byteAt a).2 = (r.byteAt a).2 ∨ (r.resetSeen = true ∧ (t.byteAt a).2 = (s.byteAt a).2))) ∧
  (∀ (s : State) (preset : Bool), s.resetSeen = false →
    (s.tickWith preset).ramcr.stbyPwr = (s.ramcr.stbyPwr && s.nextPins.standby) ∧
    (s.tickWith preset).standbyLost = (s.standbyLost || !s.nextPins.standby) ∧
    (s.tickWith preset).powerLost = (s.powerLost || !s.nextPins.vcc) ∧
    (s.tickWith preset).resetSeen = (!s.nextPins.reset || !s.nextPins.vcc))

/-- A RESET pulse shorter than three E cycles, and a release in mode 0 or 1, are refused by name (R443, R444, R5, U1, U4,
log 26). -/
def Obligations.ResetRefusals : Prop :=
  ∀ s : State, s.run = .inReset → s.nextPins.reset = true → s.nextPins.vcc = true →
    (s.resetCycles < 3 → step s = .refused .shortResetPulse) ∧
    (3 ≤ s.resetCycles → s.nextPins.p2.getLsbD 1 = false → step s = .refused .undefinedMode)

/-! ### Timer, serial interface, ports, RAM control -/

/-- One E cycle of the timer (R391, D20): the counter goes up modulo 2^16; TOF is set when it is all ones; a match outside the
cycle after a write of $0B sets OCF and clocks OLVL; the edge IEDG selects on P20 copies the counter and sets ICF unless
inhibited. Nothing else of the timer changes. -/
def Obligations.TimerCycle : Prop :=
  ∀ s : State, s.resetSeen = false →
    let t := s.tick
    let p20 := t.p2Lines.getLsbD 0
    let hit := s.timer.ocInhibit = false ∧ t.timer.cnt = s.timer.ocr
    let edge := p20 ≠ s.timer.p20prev ∧ p20 = s.timer.iedg ∧ s.timer.icInhibit = false
    t.timer.cnt.toNat = (s.timer.cnt.toNat + 1) % 65536 ∧
    (t.timer.tof = true ↔ s.timer.tof = true ∨ t.timer.cnt.toNat = 65535) ∧
    (t.timer.ocf = true ↔ s.timer.ocf = true ∨ hit) ∧
    (hit → t.timer.olr = s.timer.olvl) ∧ (¬hit → t.timer.olr = s.timer.olr) ∧
    (t.timer.icf = true ↔ s.timer.icf = true ∨ edge) ∧
    (edge → t.timer.icr = t.timer.cnt) ∧ (¬edge → t.timer.icr = s.timer.icr) ∧
    t.timer.p20prev = p20 ∧ t.timer.ocInhibit = false ∧ t.timer.icInhibit = s.timer.icInhibit ∧
    t.timer.ocr = s.timer.ocr ∧ t.timer.armTof = s.timer.armTof ∧ t.timer.armOcf = s.timer.armOcf ∧
    t.timer.armIcf = s.timer.armIcf ∧ t.timer.eici = s.timer.eici ∧ t.timer.eoci = s.timer.eoci ∧
    t.timer.etoi = s.timer.etoi ∧ t.timer.iedg = s.timer.iedg ∧ t.timer.olvl = s.timer.olvl

/-- The counter after `n` E cycles, and TOF from a clear counter: set 65535 E cycles later and not before (R392). -/
def Obligations.CounterOverflow : Prop :=
  ∀ (n : Nat) (s : State), s.resetSeen = false → (s.ticks n).resetSeen = false →
    (s.ticks n).timer.cnt.toNat = (s.timer.cnt.toNat + n) % 65536 ∧
    (s.timer.cnt = 0x0000 → s.timer.tof = false → n < 65536 →
      ((s.ticks n).timer.tof = true ↔ n = 65535))

/-- Reads and writes of the timer's registers, by LDAA and STAA direct (R393, R394, R396 to R398): each read returns the byte
and has its effect on arming, flags and the capture inhibit; $08 stores bits 4 to 0; $09 presets the counter; $0B and $0C
store the byte, clear OCF if armed, and $0B inhibits the next compare. That the access comes after the timer's step of its
cycle, and that an armed state lasts until the second access, is decision D20 (logs 1, 33). -/
def Obligations.TimerRegisters : Prop :=
  ∀ s : State,
    let k := s.tick.timer
    (∃ t, exec (.ldaaDir 0x08) s = .next t ∧
      t.cpu.a = pack8 k.icf k.ocf k.tof k.eici k.eoci k.etoi k.iedg k.olvl ∧
      t.timer = { k with armTof := k.armTof || k.tof, armOcf := k.armOcf || k.ocf, armIcf := k.armIcf || k.icf }) ∧
    (∃ t, exec (.ldaaDir 0x09) s = .next t ∧ t.cpu.a.toNat = k.cnt.toNat / 256 ∧
      t.timer = { k with tof := k.tof && !k.armTof, armTof := false }) ∧
    (∃ t, exec (.ldaaDir 0x0A) s = .next t ∧ t.cpu.a.toNat = k.cnt.toNat % 256 ∧ t.timer = k) ∧
    (∃ t, exec (.ldaaDir 0x0B) s = .next t ∧ t.cpu.a.toNat = k.ocr.toNat / 256 ∧ t.timer = k) ∧
    (∃ t, exec (.ldaaDir 0x0C) s = .next t ∧ t.cpu.a.toNat = k.ocr.toNat % 256 ∧ t.timer = k) ∧
    (∃ t, exec (.ldaaDir 0x0D) s = .next t ∧ t.cpu.a.toNat = k.icr.toNat / 256 ∧
      t.timer = { k with icInhibit := true, icf := k.icf && !k.armIcf, armIcf := false }) ∧
    (∃ t, exec (.ldaaDir 0x0E) s = .next t ∧ t.cpu.a.toNat = k.icr.toNat % 256 ∧
      t.timer = { k with icInhibit := false }) ∧
    (∃ t, exec (.staaDir 0x08) s = .next t ∧
      t.timer =
        { k with
          eici := s.cpu.a.getLsbD 4, eoci := s.cpu.a.getLsbD 3, etoi := s.cpu.a.getLsbD 2, iedg := s.cpu.a.getLsbD 1,
          olvl := s.cpu.a.getLsbD 0 }) ∧
    (s.resetSeen = false → ∃ t, exec (.staaDir 0x09) s = .next t ∧ t.timer.cnt = 0xFFF8 ∧ t.timer.tof = s.timer.tof ∧
      t.timer.ocr = s.timer.ocr ∧ t.timer.armTof = s.timer.armTof) ∧
    (∃ t, exec (.staaDir 0x0B) s = .next t ∧
      t.timer =
        { k with
          ocr := BitVec.ofNat 16 (256 * s.cpu.a.toNat + k.ocr.toNat % 256), ocInhibit := true,
          ocf := k.ocf && !k.armOcf, armOcf := false }) ∧
    (∃ t, exec (.staaDir 0x0C) s = .next t ∧
      t.timer =
        { k with
          ocr := BitVec.ofNat 16 (256 * (k.ocr.toNat / 256) + s.cpu.a.toNat),
          ocf := k.ocf && !k.armOcf, armOcf := false })

/-- A 16-bit load at $08 reads TCSR, then the counter's high byte, and so clears TOF if it was set at the first of the two
reads (R465, R90, R398); a 16-bit store at $0B writes the whole of OCR, and the half-written value cannot match (R462, R394).
The byte of the counter and the order of step and access rest on the exact timing (log 1) and on decisions D10 and D20 (log
33). -/
def Obligations.TimerWordAccesses : Prop :=
  ∀ s : State, s.resetSeen = false → s.tick.resetSeen = false →
    (∃ t, exec (.lddDir 0x08) s = .next t ∧
      (s.tick.timer.tof = true → t.timer.tof = false) ∧
      t.cpu.b.toNat = (s.timer.cnt.toNat + 2) % 65536 / 256) ∧
    (∃ t, exec (.stdDir 0x0B) s = .next t ∧ t.timer.ocr = s.d ∧ t.timer.ocInhibit = false ∧
      (t.timer.ocf = true → s.tick.timer.ocf = true ∧ s.tick.timer.armOcf = false))

/-- Reads and writes of the serial interface's registers, by LDAA and STAA direct (R412, R416, R418, R422, R424): a read of
$11 returns the eight bits and arms; a read of $12 returns RDR and clears what is armed; a write of $13 stores the byte and
clears TDRE if armed; a write of $11 stores bits 4 to 1, WU unless the line is idle, sets P24's direction bit with TE and
clears P23's with RE; a write of $10 stores bits 3 to 0 and with CC1 forces P22's direction bit to the complement of CC0. That
a read of $12 clears RDRF is the spec's general knowledge G12 (log 18), that WU is judged after the serial step of the cycle
is log 24, and that an armed state lasts is decision D20 (log 33). -/
def Obligations.SerialRegisters : Prop :=
  ∀ s : State,
    let k := s.tick.sci
    (∃ t, exec (.ldaaDir 0x11) s = .next t ∧ t.cpu.a = pack8 k.rdrf k.orfe k.tdre k.rie k.re k.tie k.te k.wu ∧
      t.sci =
        { k with armRdrf := k.armRdrf || k.rdrf, armOrfe := k.armOrfe || k.orfe, armTdre := k.armTdre || k.tdre }) ∧
    (∃ t, exec (.ldaaDir 0x12) s = .next t ∧ t.cpu.a = k.rdr ∧
      t.sci =
        { k with
          rdrf := k.rdrf && !k.armRdrf, armRdrf := false, orfe := k.orfe && !k.armOrfe, armOrfe := false,
          rxBlocked := k.rxBlocked && !k.armOrfe }) ∧
    (∃ t, exec (.staaDir 0x13) s = .next t ∧
      t.sci = { k with tdr := s.cpu.a, tdre := k.tdre && !k.armTdre, armTdre := false }) ∧
    (∃ t, exec (.staaDir 0x11) s = .next t ∧
      t.sci.rie = s.cpu.a.getLsbD 4 ∧ t.sci.re = s.cpu.a.getLsbD 3 ∧ t.sci.tie = s.cpu.a.getLsbD 2 ∧
      t.sci.te = s.cpu.a.getLsbD 1 ∧ t.sci.wu = (s.cpu.a.getLsbD 0 && decide (k.rxIdleOnes < 10)) ∧
      (k.te = false → s.cpu.a.getLsbD 1 = true → t.sci.txPreamble = 9) ∧
      (k.te = true ∨ s.cpu.a.getLsbD 1 = false → t.sci.txPreamble = k.txPreamble) ∧
      (s.cpu.a.getLsbD 1 = true → t.ports.p2ddr.getLsbD 4 = true) ∧
      (s.cpu.a.getLsbD 3 = true → t.ports.p2ddr.getLsbD 3 = false) ∧
      t.sci.armRdrf = k.armRdrf ∧ t.sci.armOrfe = k.armOrfe ∧ t.sci.armTdre = k.armTdre ∧ t.sci.tdre = k.tdre) ∧
    (∃ t, exec (.staaDir 0x10) s = .next t ∧
      t.sci.cc1 = s.cpu.a.getLsbD 3 ∧ t.sci.cc0 = s.cpu.a.getLsbD 2 ∧ t.sci.ss1 = s.cpu.a.getLsbD 1 ∧
      t.sci.ss0 = s.cpu.a.getLsbD 0 ∧
      (s.cpu.a.getLsbD 3 = true → t.ports.p2ddr.getLsbD 2 = !s.cpu.a.getLsbD 2) ∧ t.sci.tdre = k.tdre)

/-- A whole frame at a receiver that is enabled, awake, unblocked and between frames (R417, R419, R420): with a stop bit the
data byte goes to RDR and RDRF is set, or, with RDRF set, ORFE is set and RDR keeps its byte; without one and with RDRF clear
ORFE is set, the byte goes to RDR, RDRF stays clear, and transfer is blocked. -/
def Obligations.ReceiverFrames : Prop :=
  ∀ (k : Sci) (c : Nat) (d : Byte) (stop : Bool), k.re = true → k.wu = false → k.rxBlocked = false → k.rxBits = 0 →
    let k' := (frameBits d stop).foldl (fun j b => j.lineBit c b) k
    k'.rxBits = 0 ∧
    (stop = true → k.rdrf = false → k'.rdr = d ∧ k'.rdrf = true ∧ k'.orfe = k.orfe ∧ k'.rxBlocked = false) ∧
    (stop = true → k.rdrf = true → k'.rdr = k.rdr ∧ k'.rdrf = true ∧ k'.orfe = true ∧ k'.rxBlocked = false) ∧
    (stop = false → k.rdrf = false → k'.rdr = d ∧ k'.rdrf = false ∧ k'.orfe = true ∧ k'.rxBlocked = true)

/-- Wake-up (R418): ten ones on the receive line clear WU, whatever came before and with the receiver enabled or not (log 23);
while WU is set a completed frame, its stop bit good or not, changes neither RDR, RDRF nor ORFE. -/
def Obligations.WakeUp : Prop :=
  (∀ (k : Sci) (c : Nat), ((List.replicate 10 true).foldl (fun j b => j.lineBit c b) k).wu = false) ∧
  (∀ (k : Sci) (c : Nat) (d : Byte) (stop : Bool), k.wu = true → k.rxBits = 0 →
    let k' := (frameBits d stop).foldl (fun j b => j.lineBit c b) k
    k'.rdr = k.rdr ∧ k'.rdrf = k.rdrf ∧ k'.orfe = k.orfe ∧ k'.wu = true)

/-- The transmitter (R413 to R415): enabled, between frames, with a byte in TDR and the preamble over, ten bit clock edges put
the start bit, the eight data bits from bit 0 on and the stop bit on the line and set TDRE; each preamble bit is a one; with
nothing to send ones go out; disabled, nothing changes. The edges (R411): with the internal clock one where the counter
reaches a multiple of the bit time, 16, 128, 1024 or 4096 E cycles, and the half of a bit between two of them, with the
external clock one at every eighth rise of P22, also where it rises between the levels that two E cycles end at, and none
else; the phase is the model's choice (log 21). -/
def Obligations.TransmitterFrames : Prop :=
  (∀ k : Sci, k.te = true → k.txBits ≤ 1 → k.txPreamble = 0 → k.tdre = false →
    (Sci.edges 10 k).1 = frameBits k.tdr true ∧ (Sci.edges 10 k).2.tdre = true ∧ (Sci.edges 10 k).2.txBits = 1) ∧
  (∀ (n : Nat) (k : Sci), k.te = true → k.txBits ≤ 1 → n ≤ k.txPreamble →
    (Sci.edges n k).1 = List.replicate n true ∧ (Sci.edges n k).2.txPreamble = k.txPreamble - n ∧
      (Sci.edges n k).2.tdre = k.tdre) ∧
  (∀ (n : Nat) (k : Sci), k.te = true → k.txBits ≤ 1 → k.tdre = true →
    (Sci.edges n k).1 = List.replicate n true ∧ (Sci.edges n k).2.tdre = true) ∧
  (∀ k : Sci, k.te = false → k.transmitEdge = k) ∧
  (∀ s : State, s.resetSeen = false → s.nextRx = none →
    let k := s.sci
    let n := s.timer.cnt.toNat + 1
    let p22 := s.sample.p2Lines.getLsbD 2
    let levels := k.p22prev :: (s.nextP22Between.toList ++ [p22])
    (k.externalClock = false →
      s.tick.sci =
        { (if n % k.bitCycles = 0 then k.transmitEdge else if n % k.bitCycles = k.bitCycles / 2 then k.halfBit else k) with
          p22prev := p22 }) ∧
    (k.externalClock = true → ¬[false, true] <:+: levels → s.tick.sci = { k with p22prev := p22 }) ∧
    (k.externalClock = true → [false, true] <:+: levels → k.extCount < 7 →
      s.tick.sci = { k with extCount := k.extCount + 1, p22prev := p22 }) ∧
    (k.externalClock = true → [false, true] <:+: levels → k.extCount = 7 →
      s.tick.sci = { k.transmitEdge with extCount := 0, p22prev := p22 }))

/-- The ports by LDAA and STAA direct (R41 to R44, D8, D9, log 33): a write of $00 to $03 sets the direction or output latch,
but for the direction bits the serial interface forces; a read of $02 or $03 gives the pin of an input line and the latch of
an output line; $03 has 0 and the mode bits on top. The levels on the lines (R431, R432): the outside level on an input line;
on an output line the latch, but OLR on P21, the transmitter on P24 while TE is set, and on P22 with CC1:CC0 = 10 the bit rate
clock (R412), high in the second half of a bit time (log 21). -/
def Obligations.PortRegisters : Prop :=
  ∀ s : State,
    (∃ t, exec (.staaDir 0x00) s = .next t ∧ t.ports = { s.ports with p1ddr := s.cpu.a }) ∧
    (∃ t, exec (.staaDir 0x01) s = .next t ∧
      t.ports = { s.ports with p2ddr := t.sci.forceDdr (BitVec.ofNat 5 s.cpu.a.toNat) } ∧ t.sci = s.tick.sci) ∧
    (∃ t, exec (.staaDir 0x02) s = .next t ∧ t.ports = { s.ports with p1out := s.cpu.a }) ∧
    (∃ t, exec (.staaDir 0x03) s = .next t ∧ t.ports = { s.ports with p2out := BitVec.ofNat 5 s.cpu.a.toNat }) ∧
    (∃ t, exec (.ldaaDir 0x02) s = .next t ∧ t.ports = s.ports ∧
      ∀ j < 8, t.cpu.a.getLsbD j = if s.ports.p1ddr.getLsbD j then s.ports.p1out.getLsbD j else t.pins.p1.getLsbD j) ∧
    (∃ t, exec (.ldaaDir 0x03) s = .next t ∧ t.ports = s.ports ∧ t.cpu.a.getLsbD 7 = false ∧
      t.cpu.a.getLsbD 6 = s.pc1 ∧ t.cpu.a.getLsbD 5 = s.pc0 ∧
      ∀ j < 5, t.cpu.a.getLsbD j = if s.ports.p2ddr.getLsbD j then s.ports.p2out.getLsbD j else t.pins.p2.getLsbD j) ∧
    (∀ j < 8, s.p1Lines.getLsbD j = if s.ports.p1ddr.getLsbD j then s.ports.p1out.getLsbD j else s.pins.p1.getLsbD j) ∧
    (∀ j < 5, s.ports.p2ddr.getLsbD j = false → s.p2Lines.getLsbD j = s.pins.p2.getLsbD j) ∧
    (s.ports.p2ddr.getLsbD 0 = true → s.p2Lines.getLsbD 0 = s.ports.p2out.getLsbD 0) ∧
    (s.ports.p2ddr.getLsbD 1 = true → s.p2Lines.getLsbD 1 = s.timer.olr) ∧
    (s.ports.p2ddr.getLsbD 2 = true →
      s.p2Lines.getLsbD 2 =
        if s.sci.cc1 = true ∧ s.sci.cc0 = false then
          decide (s.sci.bitCycles / 2 ≤ s.timer.cnt.toNat % s.sci.bitCycles)
        else s.ports.p2out.getLsbD 2) ∧
    (s.ports.p2ddr.getLsbD 3 = true → s.p2Lines.getLsbD 3 = s.ports.p2out.getLsbD 3) ∧
    (s.ports.p2ddr.getLsbD 4 = true →
      s.p2Lines.getLsbD 4 = if s.sci.te = true then s.sci.txLine else s.ports.p2out.getLsbD 4)

/-- The RAM control register and the map (R56 to R58, R84, R438): a write of $14 sets STBY PWR and RAME from bits 7 and 6; a
read gives them there; addresses $80 to $FF are internal RAM exactly while RAME is set in mode 2 and external otherwise, from
the next access on; the contents stay. That the write wins over a loss of the standby supply in the same cycle, and that RAME
stays through such a loss, is the model's choice (log 27). -/
def Obligations.RamControl : Prop :=
  ∀ s : State,
    (∃ t, exec (.staaDir 0x14) s = .next t ∧ t.ramcr = { stbyPwr := s.cpu.a.getLsbD 7, rame := s.cpu.a.getLsbD 6 } ∧
      SameMemory s t ∧
      ∀ a : Addr, 0x80 ≤ a.toNat → a.toNat ≤ 0xFF →
        t.region a = if s.mode = 2 ∧ s.cpu.a.getLsbD 6 = true then .ram else .external) ∧
    (∃ t, exec (.ldaaDir 0x14) s = .next t ∧ t.cpu.a.getLsbD 7 = t.ramcr.stbyPwr ∧ t.cpu.a.getLsbD 6 = s.ramcr.rame ∧
      t.ramcr.rame = s.ramcr.rame) ∧
    (∀ a : Addr,
      (s.region a = .register ↔ a.toNat ≤ 3 ∨ (8 ≤ a.toNat ∧ a.toNat ≤ 0x0E) ∨ (0x10 ≤ a.toNat ∧ a.toNat ≤ 0x14)) ∧
      (s.region a = .reserved ↔ 0x15 ≤ a.toNat ∧ a.toNat ≤ 0x1F) ∧
      (s.region a = .ram ↔ 0x80 ≤ a.toNat ∧ a.toNat ≤ 0xFF ∧ s.pc1 = true ∧ s.pc0 = false ∧ s.ramcr.rame = true))

/-! ### The invariant -/

/-- Every step keeps the invariant: the memories canonical and the RAM at its addresses, the serial interface's counts in
range, transfer blocked only with ORFE set (R420), the direction bits as the serial interface forces them (R412), the mode 2
or 3 (R5), RESET honoured in every run state (R440), and the device registers held while in reset (R440). -/
def Obligations.StepKeepsInvariant : Prop :=
  ∀ s t : State, s.ok = true → step s = .next t → t.ok = true

/-- The invariant holds right after reset. -/
def Obligations.ResetMeetsInvariant : Prop := State.reset.ok = true
end

