-- ==== Sys2Proof/Laws/Memory.lean ====
section
/-! SUPPORT. The laws of the byte stores: what a read after a write gives, and that every operation keeps the canonical
form. -/

namespace Sys2Proof.Machine

/-- A canonical store reads as unlisted below its first address. -/
theorem Memory.get_of_lt {first last : Nat} {m : Memory} (h : Memory.wfWithin first last m = true) {a : Nat}
    (ha : a < first) : Memory.get m a = Config.unlistedByte := by
  induction m generalizing first with
  | nil => rfl
  | cons p m ih =>
    obtain ⟨k, w⟩ := p
    simp only [Memory.wfWithin, Bool.and_eq_true, decide_eq_true_eq] at h
    obtain ⟨⟨⟨h1, -⟩, -⟩, h4⟩ := h
    simp only [Memory.get]
    rw [if_neg (by omega)]
    exact ih h4 (by omega)

/-- The range of a canonical store may be widened. -/
theorem Memory.wfWithin_mono {f f' l l' : Nat} {m : Memory} (h : Memory.wfWithin f l m = true) (hf : f' ≤ f) (hl : l ≤ l') :
    Memory.wfWithin f' l' m = true := by
  induction m generalizing f f' with
  | nil => rfl
  | cons p m ih =>
    obtain ⟨k, w⟩ := p
    simp only [Memory.wfWithin, Bool.and_eq_true, decide_eq_true_eq] at h ⊢
    obtain ⟨⟨⟨h1, h2⟩, h3⟩, h4⟩ := h
    exact ⟨⟨⟨by omega, by omega⟩, h3⟩, ih h4 (le_refl _)⟩

/-- Reading the byte just written. -/
theorem Memory.get_set_self {first last : Nat} {m : Memory} (h : Memory.wfWithin first last m = true) (a : Nat) (v : Byte) :
    Memory.get (Memory.set m a v) a = v := by
  induction m generalizing first with
  | nil =>
    simp only [Memory.set]
    split
    · subst_vars; rfl
    · simp [Memory.get]
  | cons p m ih =>
    obtain ⟨k, w⟩ := p
    have h0 := h
    simp only [Memory.wfWithin, Bool.and_eq_true, decide_eq_true_eq] at h
    obtain ⟨⟨⟨h1, h2⟩, h3⟩, h4⟩ := h
    simp only [Memory.set]
    split
    · split
      · subst_vars
        simp only [Memory.get]
        rw [if_neg (by omega)]
        exact Memory.get_of_lt h4 (by omega)
      · simp [Memory.get]
    · split
      · subst_vars
        split
        · subst_vars
          exact Memory.get_of_lt h4 (by omega)
        · simp [Memory.get]
      · simp only [Memory.get]
        rw [if_neg (by omega)]
        exact ih h4

/-- Reading another byte after a write. -/
theorem Memory.get_set_of_ne {first last : Nat} {m : Memory} (h : Memory.wfWithin first last m = true) {a b : Nat}
    (hab : b ≠ a) (v : Byte) : Memory.get (Memory.set m a v) b = Memory.get m b := by
  induction m generalizing first with
  | nil =>
    simp only [Memory.set]
    split
    · rfl
    · simp only [Memory.get]; rw [if_neg (by omega)]
  | cons p m ih =>
    obtain ⟨k, w⟩ := p
    simp only [Memory.wfWithin, Bool.and_eq_true, decide_eq_true_eq] at h
    obtain ⟨⟨⟨h1, h2⟩, h3⟩, h4⟩ := h
    simp only [Memory.set]
    split
    · split
      · rfl
      · simp only [Memory.get]; rw [if_neg (by omega : ¬a = b)]
    · split
      · subst_vars
        split
        · simp only [Memory.get]; rw [if_neg (by omega)]
        · simp only [Memory.get]; rw [if_neg (by omega), if_neg (by omega)]
      · simp only [Memory.get]; rw [ih h4]

/-- A write in the range keeps the canonical form. -/
theorem Memory.wfWithin_set {first last : Nat} {m : Memory} (h : Memory.wfWithin first last m = true) {a : Nat} {v : Byte}
    (ha : first ≤ a) (hb : a ≤ last) : Memory.wfWithin first last (Memory.set m a v) = true := by
  induction m generalizing first with
  | nil =>
    simp only [Memory.set]
    split
    · rfl
    · simp [Memory.wfWithin, *]
  | cons p m ih =>
    obtain ⟨k, w⟩ := p
    have h0 := h
    simp only [Memory.wfWithin, Bool.and_eq_true, decide_eq_true_eq] at h
    obtain ⟨⟨⟨h1, h2⟩, h3⟩, h4⟩ := h
    simp only [Memory.set]
    split
    · split
      · exact h0
      · simp only [Memory.wfWithin, Bool.and_eq_true, decide_eq_true_eq]
        refine ⟨⟨⟨ha, hb⟩, ?_⟩, ⟨⟨by omega, h2⟩, h3⟩, h4⟩
        simpa using ‹¬v = Config.unlistedByte›
    · split
      · subst_vars
        split
        · exact Memory.wfWithin_mono h4 (by omega) (le_refl _)
        · simp only [Memory.wfWithin, Bool.and_eq_true, decide_eq_true_eq]
          refine ⟨⟨⟨ha, hb⟩, ?_⟩, h4⟩
          simpa using ‹¬v = Config.unlistedByte›
      · simp only [Memory.wfWithin, Bool.and_eq_true, decide_eq_true_eq]
        exact ⟨⟨⟨h1, h2⟩, h3⟩, ih h4 (by omega)⟩

/-- Losing the supply keeps the canonical form. -/
theorem Memory.wfWithin_scramble {first last : Nat} (c base n : Nat) {m : Memory} (h : Memory.wfWithin first last m = true)
    (ha : first ≤ base) (hb : base + n ≤ last + 1) : Memory.wfWithin first last (Memory.scramble c base n m) = true := by
  induction n generalizing m with
  | zero => exact h
  | succ n ih =>
    exact ih (Memory.wfWithin_set h (by omega) (by omega)) (by omega)

/-- Choosing old bytes at addresses in the range keeps the canonical form. -/
theorem Memory.wfWithin_eitherOf {first last : Nat} (c : Nat) (old : Memory) {new : Memory}
    (h : Memory.wfWithin first last new = true) (as : List Nat) (ha : ∀ a ∈ as, first ≤ a ∧ a ≤ last) :
    Memory.wfWithin first last (Memory.eitherOf c old new as) = true := by
  induction as with
  | nil => exact h
  | cons a as ih =>
    have ih' := ih fun b hb => ha b (List.mem_cons_of_mem _ hb)
    simp only [Memory.eitherOf]
    split
    · exact ih'
    · exact Memory.wfWithin_set ih' (ha a List.mem_cons_self).1 (ha a List.mem_cons_self).2

/-- The listed addresses of a canonical store are in its range. -/
theorem Memory.mem_range {first last : Nat} {m : Memory} (h : Memory.wfWithin first last m = true) :
    ∀ a ∈ m.map (·.1), first ≤ a ∧ a ≤ last := by
  induction m generalizing first with
  | nil => simp
  | cons p m ih =>
    obtain ⟨k, w⟩ := p
    simp only [Memory.wfWithin, Bool.and_eq_true, decide_eq_true_eq] at h
    obtain ⟨⟨⟨h1, h2⟩, -⟩, h4⟩ := h
    intro a ha
    simp only [List.map_cons, List.mem_cons] at ha
    rcases ha with rfl | ha
    · exact ⟨h1, h2⟩
    · have := ih h4 a ha; omega

/-- A byte of `eitherOf` is the old or the new one. -/
theorem Memory.get_eitherOf {first last : Nat} (c : Nat) (old : Memory) {new : Memory}
    (h : Memory.wfWithin first last new = true) (as : List Nat) (ha : ∀ a ∈ as, first ≤ a ∧ a ≤ last) (b : Nat) :
    Memory.get (Memory.eitherOf c old new as) b = Memory.get old b ∨
      Memory.get (Memory.eitherOf c old new as) b = Memory.get new b := by
  induction as with
  | nil => exact Or.inr rfl
  | cons a as ih =>
    have ha' := fun b hb => ha b (List.mem_cons_of_mem a hb)
    have ih' := ih ha'
    have hw := Memory.wfWithin_eitherOf c old h as ha'
    simp only [Memory.eitherOf]
    split
    · exact ih'
    · by_cases hba : b = a
      · subst hba; exact Or.inl (Memory.get_set_self hw _ _)
      · rw [Memory.get_set_of_ne hw hba]; exact ih'

end Sys2Proof.Machine
end

