-- ==== Sys2Proof/Laws/State.lean ====
section
/-! SUPPORT. One lemma per field per register update: no later proof unfolds one. -/

namespace Sys2Proof.Machine


/-! ### `State.withCcr` -/

@[simp] theorem State.withCcr_cpu_a (s : State) (v : Ccr) : (s.withCcr v).cpu.a = s.cpu.a := rfl
@[simp] theorem State.withCcr_cpu_b (s : State) (v : Ccr) : (s.withCcr v).cpu.b = s.cpu.b := rfl
@[simp] theorem State.withCcr_cpu_x (s : State) (v : Ccr) : (s.withCcr v).cpu.x = s.cpu.x := rfl
@[simp] theorem State.withCcr_cpu_sp (s : State) (v : Ccr) : (s.withCcr v).cpu.sp = s.cpu.sp := rfl
@[simp] theorem State.withCcr_cpu_pc (s : State) (v : Ccr) : (s.withCcr v).cpu.pc = s.cpu.pc := rfl
@[simp] theorem State.withCcr_cpu_ccr (s : State) (v : Ccr) : (s.withCcr v).cpu.ccr = v := rfl
@[simp] theorem State.withCcr_run (s : State) (v : Ccr) : (s.withCcr v).run = s.run := rfl
@[simp] theorem State.withCcr_nmiPending (s : State) (v : Ccr) : (s.withCcr v).nmiPending = s.nmiPending := rfl
@[simp] theorem State.withCcr_irqHoldoff (s : State) (v : Ccr) : (s.withCcr v).irqHoldoff = s.irqHoldoff := rfl
@[simp] theorem State.withCcr_pc1 (s : State) (v : Ccr) : (s.withCcr v).pc1 = s.pc1 := rfl
@[simp] theorem State.withCcr_pc0 (s : State) (v : Ccr) : (s.withCcr v).pc0 = s.pc0 := rfl
@[simp] theorem State.withCcr_ports (s : State) (v : Ccr) : (s.withCcr v).ports = s.ports := rfl
@[simp] theorem State.withCcr_timer (s : State) (v : Ccr) : (s.withCcr v).timer = s.timer := rfl
@[simp] theorem State.withCcr_sci (s : State) (v : Ccr) : (s.withCcr v).sci = s.sci := rfl
@[simp] theorem State.withCcr_ramcr (s : State) (v : Ccr) : (s.withCcr v).ramcr = s.ramcr := rfl
@[simp] theorem State.withCcr_extMap (s : State) (v : Ccr) : (s.withCcr v).extMap = s.extMap := rfl
@[simp] theorem State.withCcr_ext (s : State) (v : Ccr) : (s.withCcr v).ext = s.ext := rfl
@[simp] theorem State.withCcr_ram (s : State) (v : Ccr) : (s.withCcr v).ram = s.ram := rfl
@[simp] theorem State.withCcr_pins (s : State) (v : Ccr) : (s.withCcr v).pins = s.pins := rfl
@[simp] theorem State.withCcr_inputs (s : State) (v : Ccr) : (s.withCcr v).inputs = s.inputs := rfl
@[simp] theorem State.withCcr_cycles (s : State) (v : Ccr) : (s.withCcr v).cycles = s.cycles := rfl
@[simp] theorem State.withCcr_resetSeen (s : State) (v : Ccr) : (s.withCcr v).resetSeen = s.resetSeen := rfl
@[simp] theorem State.withCcr_powerLost (s : State) (v : Ccr) : (s.withCcr v).powerLost = s.powerLost := rfl
@[simp] theorem State.withCcr_standbyLost (s : State) (v : Ccr) : (s.withCcr v).standbyLost = s.standbyLost := rfl
@[simp] theorem State.withCcr_resetCycles (s : State) (v : Ccr) : (s.withCcr v).resetCycles = s.resetCycles := rfl

/-! ### `State.withX` -/

@[simp] theorem State.withX_cpu_a (s : State) (v : Word) : (s.withX v).cpu.a = s.cpu.a := rfl
@[simp] theorem State.withX_cpu_b (s : State) (v : Word) : (s.withX v).cpu.b = s.cpu.b := rfl
@[simp] theorem State.withX_cpu_x (s : State) (v : Word) : (s.withX v).cpu.x = v := rfl
@[simp] theorem State.withX_cpu_sp (s : State) (v : Word) : (s.withX v).cpu.sp = s.cpu.sp := rfl
@[simp] theorem State.withX_cpu_pc (s : State) (v : Word) : (s.withX v).cpu.pc = s.cpu.pc := rfl
@[simp] theorem State.withX_cpu_ccr (s : State) (v : Word) : (s.withX v).cpu.ccr = s.cpu.ccr := rfl
@[simp] theorem State.withX_run (s : State) (v : Word) : (s.withX v).run = s.run := rfl
@[simp] theorem State.withX_nmiPending (s : State) (v : Word) : (s.withX v).nmiPending = s.nmiPending := rfl
@[simp] theorem State.withX_irqHoldoff (s : State) (v : Word) : (s.withX v).irqHoldoff = s.irqHoldoff := rfl
@[simp] theorem State.withX_pc1 (s : State) (v : Word) : (s.withX v).pc1 = s.pc1 := rfl
@[simp] theorem State.withX_pc0 (s : State) (v : Word) : (s.withX v).pc0 = s.pc0 := rfl
@[simp] theorem State.withX_ports (s : State) (v : Word) : (s.withX v).ports = s.ports := rfl
@[simp] theorem State.withX_timer (s : State) (v : Word) : (s.withX v).timer = s.timer := rfl
@[simp] theorem State.withX_sci (s : State) (v : Word) : (s.withX v).sci = s.sci := rfl
@[simp] theorem State.withX_ramcr (s : State) (v : Word) : (s.withX v).ramcr = s.ramcr := rfl
@[simp] theorem State.withX_extMap (s : State) (v : Word) : (s.withX v).extMap = s.extMap := rfl
@[simp] theorem State.withX_ext (s : State) (v : Word) : (s.withX v).ext = s.ext := rfl
@[simp] theorem State.withX_ram (s : State) (v : Word) : (s.withX v).ram = s.ram := rfl
@[simp] theorem State.withX_pins (s : State) (v : Word) : (s.withX v).pins = s.pins := rfl
@[simp] theorem State.withX_inputs (s : State) (v : Word) : (s.withX v).inputs = s.inputs := rfl
@[simp] theorem State.withX_cycles (s : State) (v : Word) : (s.withX v).cycles = s.cycles := rfl
@[simp] theorem State.withX_resetSeen (s : State) (v : Word) : (s.withX v).resetSeen = s.resetSeen := rfl
@[simp] theorem State.withX_powerLost (s : State) (v : Word) : (s.withX v).powerLost = s.powerLost := rfl
@[simp] theorem State.withX_standbyLost (s : State) (v : Word) : (s.withX v).standbyLost = s.standbyLost := rfl
@[simp] theorem State.withX_resetCycles (s : State) (v : Word) : (s.withX v).resetCycles = s.resetCycles := rfl

/-! ### `State.withSp` -/

@[simp] theorem State.withSp_cpu_a (s : State) (v : Word) : (s.withSp v).cpu.a = s.cpu.a := rfl
@[simp] theorem State.withSp_cpu_b (s : State) (v : Word) : (s.withSp v).cpu.b = s.cpu.b := rfl
@[simp] theorem State.withSp_cpu_x (s : State) (v : Word) : (s.withSp v).cpu.x = s.cpu.x := rfl
@[simp] theorem State.withSp_cpu_sp (s : State) (v : Word) : (s.withSp v).cpu.sp = v := rfl
@[simp] theorem State.withSp_cpu_pc (s : State) (v : Word) : (s.withSp v).cpu.pc = s.cpu.pc := rfl
@[simp] theorem State.withSp_cpu_ccr (s : State) (v : Word) : (s.withSp v).cpu.ccr = s.cpu.ccr := rfl
@[simp] theorem State.withSp_run (s : State) (v : Word) : (s.withSp v).run = s.run := rfl
@[simp] theorem State.withSp_nmiPending (s : State) (v : Word) : (s.withSp v).nmiPending = s.nmiPending := rfl
@[simp] theorem State.withSp_irqHoldoff (s : State) (v : Word) : (s.withSp v).irqHoldoff = s.irqHoldoff := rfl
@[simp] theorem State.withSp_pc1 (s : State) (v : Word) : (s.withSp v).pc1 = s.pc1 := rfl
@[simp] theorem State.withSp_pc0 (s : State) (v : Word) : (s.withSp v).pc0 = s.pc0 := rfl
@[simp] theorem State.withSp_ports (s : State) (v : Word) : (s.withSp v).ports = s.ports := rfl
@[simp] theorem State.withSp_timer (s : State) (v : Word) : (s.withSp v).timer = s.timer := rfl
@[simp] theorem State.withSp_sci (s : State) (v : Word) : (s.withSp v).sci = s.sci := rfl
@[simp] theorem State.withSp_ramcr (s : State) (v : Word) : (s.withSp v).ramcr = s.ramcr := rfl
@[simp] theorem State.withSp_extMap (s : State) (v : Word) : (s.withSp v).extMap = s.extMap := rfl
@[simp] theorem State.withSp_ext (s : State) (v : Word) : (s.withSp v).ext = s.ext := rfl
@[simp] theorem State.withSp_ram (s : State) (v : Word) : (s.withSp v).ram = s.ram := rfl
@[simp] theorem State.withSp_pins (s : State) (v : Word) : (s.withSp v).pins = s.pins := rfl
@[simp] theorem State.withSp_inputs (s : State) (v : Word) : (s.withSp v).inputs = s.inputs := rfl
@[simp] theorem State.withSp_cycles (s : State) (v : Word) : (s.withSp v).cycles = s.cycles := rfl
@[simp] theorem State.withSp_resetSeen (s : State) (v : Word) : (s.withSp v).resetSeen = s.resetSeen := rfl
@[simp] theorem State.withSp_powerLost (s : State) (v : Word) : (s.withSp v).powerLost = s.powerLost := rfl
@[simp] theorem State.withSp_standbyLost (s : State) (v : Word) : (s.withSp v).standbyLost = s.standbyLost := rfl
@[simp] theorem State.withSp_resetCycles (s : State) (v : Word) : (s.withSp v).resetCycles = s.resetCycles := rfl

/-! ### `State.withPc` -/

@[simp] theorem State.withPc_cpu_a (s : State) (v : Word) : (s.withPc v).cpu.a = s.cpu.a := rfl
@[simp] theorem State.withPc_cpu_b (s : State) (v : Word) : (s.withPc v).cpu.b = s.cpu.b := rfl
@[simp] theorem State.withPc_cpu_x (s : State) (v : Word) : (s.withPc v).cpu.x = s.cpu.x := rfl
@[simp] theorem State.withPc_cpu_sp (s : State) (v : Word) : (s.withPc v).cpu.sp = s.cpu.sp := rfl
@[simp] theorem State.withPc_cpu_pc (s : State) (v : Word) : (s.withPc v).cpu.pc = v := rfl
@[simp] theorem State.withPc_cpu_ccr (s : State) (v : Word) : (s.withPc v).cpu.ccr = s.cpu.ccr := rfl
@[simp] theorem State.withPc_run (s : State) (v : Word) : (s.withPc v).run = s.run := rfl
@[simp] theorem State.withPc_nmiPending (s : State) (v : Word) : (s.withPc v).nmiPending = s.nmiPending := rfl
@[simp] theorem State.withPc_irqHoldoff (s : State) (v : Word) : (s.withPc v).irqHoldoff = s.irqHoldoff := rfl
@[simp] theorem State.withPc_pc1 (s : State) (v : Word) : (s.withPc v).pc1 = s.pc1 := rfl
@[simp] theorem State.withPc_pc0 (s : State) (v : Word) : (s.withPc v).pc0 = s.pc0 := rfl
@[simp] theorem State.withPc_ports (s : State) (v : Word) : (s.withPc v).ports = s.ports := rfl
@[simp] theorem State.withPc_timer (s : State) (v : Word) : (s.withPc v).timer = s.timer := rfl
@[simp] theorem State.withPc_sci (s : State) (v : Word) : (s.withPc v).sci = s.sci := rfl
@[simp] theorem State.withPc_ramcr (s : State) (v : Word) : (s.withPc v).ramcr = s.ramcr := rfl
@[simp] theorem State.withPc_extMap (s : State) (v : Word) : (s.withPc v).extMap = s.extMap := rfl
@[simp] theorem State.withPc_ext (s : State) (v : Word) : (s.withPc v).ext = s.ext := rfl
@[simp] theorem State.withPc_ram (s : State) (v : Word) : (s.withPc v).ram = s.ram := rfl
@[simp] theorem State.withPc_pins (s : State) (v : Word) : (s.withPc v).pins = s.pins := rfl
@[simp] theorem State.withPc_inputs (s : State) (v : Word) : (s.withPc v).inputs = s.inputs := rfl
@[simp] theorem State.withPc_cycles (s : State) (v : Word) : (s.withPc v).cycles = s.cycles := rfl
@[simp] theorem State.withPc_resetSeen (s : State) (v : Word) : (s.withPc v).resetSeen = s.resetSeen := rfl
@[simp] theorem State.withPc_powerLost (s : State) (v : Word) : (s.withPc v).powerLost = s.powerLost := rfl
@[simp] theorem State.withPc_standbyLost (s : State) (v : Word) : (s.withPc v).standbyLost = s.standbyLost := rfl
@[simp] theorem State.withPc_resetCycles (s : State) (v : Word) : (s.withPc v).resetCycles = s.resetCycles := rfl

/-! ### `State.withAcc` -/

@[simp] theorem State.withAcc_run (s : State) (r : Acc) (v : Byte) : (s.withAcc r v).run = s.run := by cases r <;> rfl
@[simp] theorem State.withAcc_nmiPending (s : State) (r : Acc) (v : Byte) : (s.withAcc r v).nmiPending = s.nmiPending := by cases r <;> rfl
@[simp] theorem State.withAcc_irqHoldoff (s : State) (r : Acc) (v : Byte) : (s.withAcc r v).irqHoldoff = s.irqHoldoff := by cases r <;> rfl
@[simp] theorem State.withAcc_pc1 (s : State) (r : Acc) (v : Byte) : (s.withAcc r v).pc1 = s.pc1 := by cases r <;> rfl
@[simp] theorem State.withAcc_pc0 (s : State) (r : Acc) (v : Byte) : (s.withAcc r v).pc0 = s.pc0 := by cases r <;> rfl
@[simp] theorem State.withAcc_ports (s : State) (r : Acc) (v : Byte) : (s.withAcc r v).ports = s.ports := by cases r <;> rfl
@[simp] theorem State.withAcc_timer (s : State) (r : Acc) (v : Byte) : (s.withAcc r v).timer = s.timer := by cases r <;> rfl
@[simp] theorem State.withAcc_sci (s : State) (r : Acc) (v : Byte) : (s.withAcc r v).sci = s.sci := by cases r <;> rfl
@[simp] theorem State.withAcc_ramcr (s : State) (r : Acc) (v : Byte) : (s.withAcc r v).ramcr = s.ramcr := by cases r <;> rfl
@[simp] theorem State.withAcc_extMap (s : State) (r : Acc) (v : Byte) : (s.withAcc r v).extMap = s.extMap := by cases r <;> rfl
@[simp] theorem State.withAcc_ext (s : State) (r : Acc) (v : Byte) : (s.withAcc r v).ext = s.ext := by cases r <;> rfl
@[simp] theorem State.withAcc_ram (s : State) (r : Acc) (v : Byte) : (s.withAcc r v).ram = s.ram := by cases r <;> rfl
@[simp] theorem State.withAcc_pins (s : State) (r : Acc) (v : Byte) : (s.withAcc r v).pins = s.pins := by cases r <;> rfl
@[simp] theorem State.withAcc_inputs (s : State) (r : Acc) (v : Byte) : (s.withAcc r v).inputs = s.inputs := by cases r <;> rfl
@[simp] theorem State.withAcc_cycles (s : State) (r : Acc) (v : Byte) : (s.withAcc r v).cycles = s.cycles := by cases r <;> rfl
@[simp] theorem State.withAcc_resetSeen (s : State) (r : Acc) (v : Byte) : (s.withAcc r v).resetSeen = s.resetSeen := by cases r <;> rfl
@[simp] theorem State.withAcc_powerLost (s : State) (r : Acc) (v : Byte) : (s.withAcc r v).powerLost = s.powerLost := by cases r <;> rfl
@[simp] theorem State.withAcc_standbyLost (s : State) (r : Acc) (v : Byte) : (s.withAcc r v).standbyLost = s.standbyLost := by cases r <;> rfl
@[simp] theorem State.withAcc_resetCycles (s : State) (r : Acc) (v : Byte) : (s.withAcc r v).resetCycles = s.resetCycles := by cases r <;> rfl
@[simp] theorem State.withAcc_cpu_pc (s : State) (r : Acc) (v : Byte) : (s.withAcc r v).cpu.pc = s.cpu.pc := by cases r <;> rfl
@[simp] theorem State.withAcc_cpu_ccr (s : State) (r : Acc) (v : Byte) : (s.withAcc r v).cpu.ccr = s.cpu.ccr := by cases r <;> rfl

/-! ### `State.withReg16` -/

@[simp] theorem State.withReg16_run (s : State) (r : Reg16) (v : Word) : (s.withReg16 r v).run = s.run := by cases r <;> rfl
@[simp] theorem State.withReg16_nmiPending (s : State) (r : Reg16) (v : Word) : (s.withReg16 r v).nmiPending = s.nmiPending := by cases r <;> rfl
@[simp] theorem State.withReg16_irqHoldoff (s : State) (r : Reg16) (v : Word) : (s.withReg16 r v).irqHoldoff = s.irqHoldoff := by cases r <;> rfl
@[simp] theorem State.withReg16_pc1 (s : State) (r : Reg16) (v : Word) : (s.withReg16 r v).pc1 = s.pc1 := by cases r <;> rfl
@[simp] theorem State.withReg16_pc0 (s : State) (r : Reg16) (v : Word) : (s.withReg16 r v).pc0 = s.pc0 := by cases r <;> rfl
@[simp] theorem State.withReg16_ports (s : State) (r : Reg16) (v : Word) : (s.withReg16 r v).ports = s.ports := by cases r <;> rfl
@[simp] theorem State.withReg16_timer (s : State) (r : Reg16) (v : Word) : (s.withReg16 r v).timer = s.timer := by cases r <;> rfl
@[simp] theorem State.withReg16_sci (s : State) (r : Reg16) (v : Word) : (s.withReg16 r v).sci = s.sci := by cases r <;> rfl
@[simp] theorem State.withReg16_ramcr (s : State) (r : Reg16) (v : Word) : (s.withReg16 r v).ramcr = s.ramcr := by cases r <;> rfl
@[simp] theorem State.withReg16_extMap (s : State) (r : Reg16) (v : Word) : (s.withReg16 r v).extMap = s.extMap := by cases r <;> rfl
@[simp] theorem State.withReg16_ext (s : State) (r : Reg16) (v : Word) : (s.withReg16 r v).ext = s.ext := by cases r <;> rfl
@[simp] theorem State.withReg16_ram (s : State) (r : Reg16) (v : Word) : (s.withReg16 r v).ram = s.ram := by cases r <;> rfl
@[simp] theorem State.withReg16_pins (s : State) (r : Reg16) (v : Word) : (s.withReg16 r v).pins = s.pins := by cases r <;> rfl
@[simp] theorem State.withReg16_inputs (s : State) (r : Reg16) (v : Word) : (s.withReg16 r v).inputs = s.inputs := by cases r <;> rfl
@[simp] theorem State.withReg16_cycles (s : State) (r : Reg16) (v : Word) : (s.withReg16 r v).cycles = s.cycles := by cases r <;> rfl
@[simp] theorem State.withReg16_resetSeen (s : State) (r : Reg16) (v : Word) : (s.withReg16 r v).resetSeen = s.resetSeen := by cases r <;> rfl
@[simp] theorem State.withReg16_powerLost (s : State) (r : Reg16) (v : Word) : (s.withReg16 r v).powerLost = s.powerLost := by cases r <;> rfl
@[simp] theorem State.withReg16_standbyLost (s : State) (r : Reg16) (v : Word) : (s.withReg16 r v).standbyLost = s.standbyLost := by cases r <;> rfl
@[simp] theorem State.withReg16_resetCycles (s : State) (r : Reg16) (v : Word) : (s.withReg16 r v).resetCycles = s.resetCycles := by cases r <;> rfl
@[simp] theorem State.withReg16_cpu_pc (s : State) (r : Reg16) (v : Word) : (s.withReg16 r v).cpu.pc = s.cpu.pc := by cases r <;> rfl
@[simp] theorem State.withReg16_cpu_ccr (s : State) (r : Reg16) (v : Word) : (s.withReg16 r v).cpu.ccr = s.cpu.ccr := by cases r <;> rfl

end Sys2Proof.Machine
end

