-- ==== Sys2Proof/Laws/Bus.lean ====
section
/-! SUPPORT. What an E cycle and a bus access can do, said once: which fields they leave alone, what a plain address
gives, how memory changes, and that the passing of time does not look at the MPU registers or memory. -/

namespace Sys2Proof.Machine

/-! ### One E cycle -/

@[simp] theorem State.tickWith_cpu (s : State) (p : Bool) : (s.tickWith p).cpu = s.cpu := by
  unfold State.tickWith; split <;> rfl

@[simp] theorem State.tickWith_run (s : State) (p : Bool) : (s.tickWith p).run = s.run := by
  unfold State.tickWith; split <;> rfl

@[simp] theorem State.tickWith_irqHoldoff (s : State) (p : Bool) : (s.tickWith p).irqHoldoff = s.irqHoldoff := by
  unfold State.tickWith; split <;> rfl

@[simp] theorem State.tickWith_pc1 (s : State) (p : Bool) : (s.tickWith p).pc1 = s.pc1 := by
  unfold State.tickWith; split <;> rfl

@[simp] theorem State.tickWith_pc0 (s : State) (p : Bool) : (s.tickWith p).pc0 = s.pc0 := by
  unfold State.tickWith; split <;> rfl

@[simp] theorem State.tickWith_ports (s : State) (p : Bool) : (s.tickWith p).ports = s.ports := by
  unfold State.tickWith; split <;> rfl

@[simp] theorem State.tickWith_extMap (s : State) (p : Bool) : (s.tickWith p).extMap = s.extMap := by
  unfold State.tickWith; split <;> rfl

@[simp] theorem State.tickWith_ext (s : State) (p : Bool) : (s.tickWith p).ext = s.ext := by
  unfold State.tickWith; split <;> rfl

@[simp] theorem State.tickWith_ram (s : State) (p : Bool) : (s.tickWith p).ram = s.ram := by
  unfold State.tickWith; split <;> rfl

@[simp] theorem State.tickWith_resetCycles (s : State) (p : Bool) : (s.tickWith p).resetCycles = s.resetCycles := by
  unfold State.tickWith; split <;> rfl

@[simp] theorem State.tickWith_rame (s : State) (p : Bool) : (s.tickWith p).ramcr.rame = s.ramcr.rame := by
  unfold State.tickWith; split <;> rfl

@[simp] theorem State.tick_cpu (s : State) : s.tick.cpu = s.cpu := State.tickWith_cpu s false

@[simp] theorem State.tick_run (s : State) : s.tick.run = s.run := State.tickWith_run s false

@[simp] theorem State.tick_irqHoldoff (s : State) : s.tick.irqHoldoff = s.irqHoldoff := State.tickWith_irqHoldoff s false

@[simp] theorem State.tick_pc1 (s : State) : s.tick.pc1 = s.pc1 := State.tickWith_pc1 s false

@[simp] theorem State.tick_pc0 (s : State) : s.tick.pc0 = s.pc0 := State.tickWith_pc0 s false

@[simp] theorem State.tick_ports (s : State) : s.tick.ports = s.ports := State.tickWith_ports s false

@[simp] theorem State.tick_extMap (s : State) : s.tick.extMap = s.extMap := State.tickWith_extMap s false

@[simp] theorem State.tick_ext (s : State) : s.tick.ext = s.ext := State.tickWith_ext s false

@[simp] theorem State.tick_ram (s : State) : s.tick.ram = s.ram := State.tickWith_ram s false

@[simp] theorem State.tick_resetCycles (s : State) : s.tick.resetCycles = s.resetCycles := State.tickWith_resetCycles s false

@[simp] theorem State.tick_rame (s : State) : s.tick.ramcr.rame = s.ramcr.rame := State.tickWith_rame s false

/-- Once RESET has been seen no time passes (log 25). -/
theorem State.tickWith_of_resetSeen {s : State} (h : s.resetSeen = true) (p : Bool) : s.tickWith p = s := by
  unfold State.tickWith; rw [if_pos h]

/-- An E cycle counts one, unless RESET has been seen. -/
theorem State.tickWith_cycles {s : State} (h : s.resetSeen = false) (p : Bool) : (s.tickWith p).cycles = s.cycles + 1 := by
  unfold State.tickWith; rw [if_neg (by simp [h])]; rfl

/-- RESET once seen stays seen. -/
theorem State.resetSeen_of_tickWith {s : State} {p : Bool} (h : (s.tickWith p).resetSeen = false) : s.resetSeen = false := by
  cases hs : s.resetSeen with
  | false => rfl
  | true => rw [State.tickWith_of_resetSeen hs, hs] at h; exact h

/-- Time does not look at the MPU registers, the run state, the hold-off or memory. -/
theorem State.tickWith_congr (s : State) (p : Bool) (c : Cpu) (r : RunState) (i : Bool) (e m : Memory) :
    State.tickWith p { s with cpu := c, run := r, irqHoldoff := i, ext := e, ram := m } =
      { s.tickWith p with cpu := c, run := r, irqHoldoff := i, ext := e, ram := m } := by
  by_cases h : s.resetSeen = true
  · rw [State.tickWith_of_resetSeen h, State.tickWith_of_resetSeen (by exact h)]
  · unfold State.tickWith; rw [if_neg h, if_neg (by exact h)]; rfl

/-! ### `n` E cycles -/

/-- The last E cycle apart. -/
theorem State.ticks_succ (n : Nat) (s : State) : s.ticks (n + 1) = (s.ticks n).tick := by
  induction n generalizing s with
  | zero => rfl
  | succ n ih => exact ih s.tick

theorem State.ticks_add (n m : Nat) (s : State) : s.ticks (n + m) = (s.ticks n).ticks m := by
  induction n generalizing s with
  | zero => rw [Nat.zero_add]; rfl
  | succ n ih => rw [Nat.succ_add]; exact ih s.tick

@[simp] theorem State.ticks_cpu (n : Nat) (s : State) : (s.ticks n).cpu = s.cpu := by
  induction n generalizing s with
  | zero => rfl
  | succ n ih => exact (ih s.tick).trans (State.tick_cpu s)

@[simp] theorem State.ticks_run (n : Nat) (s : State) : (s.ticks n).run = s.run := by
  induction n generalizing s with
  | zero => rfl
  | succ n ih => exact (ih s.tick).trans (State.tick_run s)

@[simp] theorem State.ticks_irqHoldoff (n : Nat) (s : State) : (s.ticks n).irqHoldoff = s.irqHoldoff := by
  induction n generalizing s with
  | zero => rfl
  | succ n ih => exact (ih s.tick).trans (State.tick_irqHoldoff s)

@[simp] theorem State.ticks_pc1 (n : Nat) (s : State) : (s.ticks n).pc1 = s.pc1 := by
  induction n generalizing s with
  | zero => rfl
  | succ n ih => exact (ih s.tick).trans (State.tick_pc1 s)

@[simp] theorem State.ticks_pc0 (n : Nat) (s : State) : (s.ticks n).pc0 = s.pc0 := by
  induction n generalizing s with
  | zero => rfl
  | succ n ih => exact (ih s.tick).trans (State.tick_pc0 s)

@[simp] theorem State.ticks_ports (n : Nat) (s : State) : (s.ticks n).ports = s.ports := by
  induction n generalizing s with
  | zero => rfl
  | succ n ih => exact (ih s.tick).trans (State.tick_ports s)

@[simp] theorem State.ticks_extMap (n : Nat) (s : State) : (s.ticks n).extMap = s.extMap := by
  induction n generalizing s with
  | zero => rfl
  | succ n ih => exact (ih s.tick).trans (State.tick_extMap s)

@[simp] theorem State.ticks_ext (n : Nat) (s : State) : (s.ticks n).ext = s.ext := by
  induction n generalizing s with
  | zero => rfl
  | succ n ih => exact (ih s.tick).trans (State.tick_ext s)

@[simp] theorem State.ticks_ram (n : Nat) (s : State) : (s.ticks n).ram = s.ram := by
  induction n generalizing s with
  | zero => rfl
  | succ n ih => exact (ih s.tick).trans (State.tick_ram s)

@[simp] theorem State.ticks_resetCycles (n : Nat) (s : State) : (s.ticks n).resetCycles = s.resetCycles := by
  induction n generalizing s with
  | zero => rfl
  | succ n ih => exact (ih s.tick).trans (State.tick_resetCycles s)

@[simp] theorem State.ticks_rame (n : Nat) (s : State) : (s.ticks n).ramcr.rame = s.ramcr.rame := by
  induction n generalizing s with
  | zero => rfl
  | succ n ih => exact (ih s.tick).trans (State.tick_rame s)

/-! ### The address decoder -/

/-- The decoder looks at the mode bits and RAME only (R84). -/
theorem State.region_congr {s t : State} (h1 : t.pc1 = s.pc1) (h0 : t.pc0 = s.pc0) (hr : t.ramcr.rame = s.ramcr.rame)
    (a : Addr) : t.region a = s.region a := by
  unfold State.region State.ramMapped State.mode; rw [h1, h0, hr]

/-- Below $80 the decoder looks at nothing. -/
theorem State.region_of_low (s t : State) {a : Addr} (h : a.toNat < 0x80) : t.region a = s.region a := by
  unfold State.region
  simp only [show ∀ p : Prop, (0x80 ≤ a.toNat ∧ p) = False from fun p => by simp; omega, if_false]

@[simp] theorem State.tickWith_region (s : State) (p : Bool) (a : Addr) : (s.tickWith p).region a = s.region a :=
  State.region_congr (by simp) (by simp) (by simp) a

@[simp] theorem State.tick_region (s : State) (a : Addr) : s.tick.region a = s.region a := State.tickWith_region s false a

@[simp] theorem State.ticks_region (n : Nat) (s : State) (a : Addr) : (s.ticks n).region a = s.region a :=
  State.region_congr (by simp) (by simp) (by simp) a

@[simp] theorem State.tick_plain (s : State) (a : Addr) : s.tick.plain a = s.plain a := by unfold State.plain; simp

@[simp] theorem State.tick_peek (s : State) (a : Addr) : s.tick.peek a = s.peek a := by unfold State.peek; simp

@[simp] theorem State.tick_byteAt (s : State) (a : Addr) : s.tick.byteAt a = s.byteAt a := by unfold State.byteAt; simp

@[simp] theorem State.tickWith_byteAt (s : State) (p : Bool) (a : Addr) : (s.tickWith p).byteAt a = s.byteAt a := by
  unfold State.byteAt; simp

/-- A plain address is no register and not reserved. -/
theorem State.plain_iff (s : State) (a : Addr) : s.plain a = true ↔ s.region a = .ram ∨ s.region a = .external := by
  unfold State.plain; simp

/-- The platform's map alone says what an external address has. -/
theorem State.extKind_congr {s t : State} (h : t.extMap = s.extMap) (a : Addr) : t.extKind a = s.extKind a := by
  unfold State.extKind; rw [h]

@[simp] theorem State.tickWith_extKind (s : State) (p : Bool) (a : Addr) : (s.tickWith p).extKind a = s.extKind a :=
  State.extKind_congr (by simp) a

@[simp] theorem State.tick_extKind (s : State) (a : Addr) : s.tick.extKind a = s.extKind a := State.tickWith_extKind s false a

@[simp] theorem State.tick_readable (s : State) (a : Addr) : s.tick.readable a = s.readable a := by
  unfold State.readable; simp

@[simp] theorem State.tick_writable (s : State) (a : Addr) : s.tick.writable a = s.writable a := by
  unfold State.writable; simp

/-- RAM can be read. -/
theorem State.readable_of_writable {s : State} {a : Addr} (h : s.writable a = true) : s.readable a = true := by
  unfold State.writable at h; unfold State.readable
  cases hk : s.extKind a <;> simp_all

/-- Memory is no register and not reserved. -/
theorem State.plain_of_readable {s : State} {a : Addr} (h : s.readable a = true) : s.plain a = true := by
  unfold State.readable at h; unfold State.plain
  simp only [Bool.or_eq_true, Bool.and_eq_true] at h ⊢
  exact h.imp_right And.left

/-- What an address of memory holds is what `peek` says. -/
theorem State.valueAt_of_readable {s : State} {a : Addr} (h : s.readable a = true) : s.valueAt a = s.peek a := by
  unfold State.readable at h
  simp only [Bool.or_eq_true, Bool.and_eq_true, beq_iff_eq, bne_iff_ne, ne_eq] at h
  rcases h with h | ⟨h, hk⟩
  · simp [State.valueAt, State.peek, h]
  · simp only [State.valueAt, State.peek, h, State.extRead]
    cases hx : s.extKind a <;> simp_all

/-- RAM holds what is written. -/
theorem State.bytesStored_of_writable {s : State} {a : Addr} (h : s.writable a = true) (v : Byte) :
    s.bytesStored a v = if s.region a = .ram then (s.ext.get a.toNat, v) else (v, s.ram.get a.toNat) := by
  unfold State.writable at h
  simp only [Bool.or_eq_true, Bool.and_eq_true, beq_iff_eq] at h
  rcases h with h | ⟨h, hk⟩
  · simp [State.bytesStored, h]
  · simp [State.bytesStored, h, hk]

/-! ### The effect of a read -/

@[simp] theorem State.readEffect_cpu (s : State) (a : Addr) : (s.readEffect a).cpu = s.cpu := by
  unfold State.readEffect State.registerReadEffect
  split <;> first | rfl | (split <;> rfl)

@[simp] theorem State.readEffect_run (s : State) (a : Addr) : (s.readEffect a).run = s.run := by
  unfold State.readEffect State.registerReadEffect
  split <;> first | rfl | (split <;> rfl)

@[simp] theorem State.readEffect_irqHoldoff (s : State) (a : Addr) : (s.readEffect a).irqHoldoff = s.irqHoldoff := by
  unfold State.readEffect State.registerReadEffect
  split <;> first | rfl | (split <;> rfl)

@[simp] theorem State.readEffect_pc1 (s : State) (a : Addr) : (s.readEffect a).pc1 = s.pc1 := by
  unfold State.readEffect State.registerReadEffect
  split <;> first | rfl | (split <;> rfl)

@[simp] theorem State.readEffect_pc0 (s : State) (a : Addr) : (s.readEffect a).pc0 = s.pc0 := by
  unfold State.readEffect State.registerReadEffect
  split <;> first | rfl | (split <;> rfl)

@[simp] theorem State.readEffect_ports (s : State) (a : Addr) : (s.readEffect a).ports = s.ports := by
  unfold State.readEffect State.registerReadEffect
  split <;> first | rfl | (split <;> rfl)

@[simp] theorem State.readEffect_extMap (s : State) (a : Addr) : (s.readEffect a).extMap = s.extMap := by
  unfold State.readEffect State.registerReadEffect
  split <;> first | rfl | (split <;> rfl)

@[simp] theorem State.readEffect_ext (s : State) (a : Addr) : (s.readEffect a).ext = s.ext := by
  unfold State.readEffect State.registerReadEffect
  split <;> first | rfl | (split <;> rfl)

@[simp] theorem State.readEffect_ram (s : State) (a : Addr) : (s.readEffect a).ram = s.ram := by
  unfold State.readEffect State.registerReadEffect
  split <;> first | rfl | (split <;> rfl)

@[simp] theorem State.readEffect_resetCycles (s : State) (a : Addr) : (s.readEffect a).resetCycles = s.resetCycles := by
  unfold State.readEffect State.registerReadEffect
  split <;> first | rfl | (split <;> rfl)

@[simp] theorem State.readEffect_ramcr (s : State) (a : Addr) : (s.readEffect a).ramcr = s.ramcr := by
  unfold State.readEffect State.registerReadEffect
  split <;> first | rfl | (split <;> rfl)

@[simp] theorem State.readEffect_pins (s : State) (a : Addr) : (s.readEffect a).pins = s.pins := by
  unfold State.readEffect State.registerReadEffect
  split <;> first | rfl | (split <;> rfl)

@[simp] theorem State.readEffect_inputs (s : State) (a : Addr) : (s.readEffect a).inputs = s.inputs := by
  unfold State.readEffect State.registerReadEffect
  split <;> first | rfl | (split <;> rfl)

@[simp] theorem State.readEffect_cycles (s : State) (a : Addr) : (s.readEffect a).cycles = s.cycles := by
  unfold State.readEffect State.registerReadEffect
  split <;> first | rfl | (split <;> rfl)

@[simp] theorem State.readEffect_resetSeen (s : State) (a : Addr) : (s.readEffect a).resetSeen = s.resetSeen := by
  unfold State.readEffect State.registerReadEffect
  split <;> first | rfl | (split <;> rfl)

@[simp] theorem State.readEffect_powerLost (s : State) (a : Addr) : (s.readEffect a).powerLost = s.powerLost := by
  unfold State.readEffect State.registerReadEffect
  split <;> first | rfl | (split <;> rfl)

@[simp] theorem State.readEffect_standbyLost (s : State) (a : Addr) : (s.readEffect a).standbyLost = s.standbyLost := by
  unfold State.readEffect State.registerReadEffect
  split <;> first | rfl | (split <;> rfl)

@[simp] theorem State.readEffect_nmiPending (s : State) (a : Addr) : (s.readEffect a).nmiPending = s.nmiPending := by
  unfold State.readEffect State.registerReadEffect
  split <;> first | rfl | (split <;> rfl)

@[simp] theorem State.readEffect_region (s : State) (a b : Addr) : (s.readEffect a).region b = s.region b :=
  State.region_congr (by simp) (by simp) (by simp) b

/-- Where a read has no effect (R91). -/
theorem State.readEffect_of_quiet (s : State) {a : Addr} (h : quietRead a = true) : s.readEffect a = s := by
  unfold State.readEffect State.registerReadEffect
  simp only [quietRead, Bool.and_eq_true, bne_iff_ne, ne_eq] at h
  split
  · have e : ∀ k : Nat, a.toNat = k → a = BitVec.ofNat 16 k := fun k hk => by rw [← hk]; simp
    split
    · exact absurd (e _ ‹_›) h.1.1.1.1.1
    · exact absurd (e _ ‹_›) h.1.1.1.1.2
    · exact absurd (e _ ‹_›) h.1.1.1.2
    · exact absurd (e _ ‹_›) h.1.1.2
    · exact absurd (e _ ‹_›) h.1.2
    · exact absurd (e _ ‹_›) h.2
    · rfl
  · rfl

/-- A plain address is quiet. -/
theorem State.quietRead_of_plain {s : State} {a : Addr} (h : s.plain a = true) : quietRead a = true := by
  cases hq : quietRead a with
  | true => rfl
  | false =>
    exfalso
    simp only [quietRead, Bool.and_eq_false_iff, bne_eq_false_iff_eq] at hq
    have : s.region a = .register := by
      unfold State.region
      rcases hq with ((((h | h) | h) | h) | h) | h <;> subst h <;> rfl
    rcases (State.plain_iff s a).1 h with h | h <;> rw [this] at h <;> cases h

/-! ### The effect of a write -/

@[simp] theorem State.storeAt_cpu (s : State) (a : Addr) (v : Byte) : (s.storeAt a v).cpu = s.cpu := by
  unfold State.storeAt State.registerWrite State.withSci State.extWrite
  split <;> first | rfl | (split <;> rfl)

@[simp] theorem State.storeAt_run (s : State) (a : Addr) (v : Byte) : (s.storeAt a v).run = s.run := by
  unfold State.storeAt State.registerWrite State.withSci State.extWrite
  split <;> first | rfl | (split <;> rfl)

@[simp] theorem State.storeAt_irqHoldoff (s : State) (a : Addr) (v : Byte) : (s.storeAt a v).irqHoldoff = s.irqHoldoff := by
  unfold State.storeAt State.registerWrite State.withSci State.extWrite
  split <;> first | rfl | (split <;> rfl)

@[simp] theorem State.storeAt_pc1 (s : State) (a : Addr) (v : Byte) : (s.storeAt a v).pc1 = s.pc1 := by
  unfold State.storeAt State.registerWrite State.withSci State.extWrite
  split <;> first | rfl | (split <;> rfl)

@[simp] theorem State.storeAt_pc0 (s : State) (a : Addr) (v : Byte) : (s.storeAt a v).pc0 = s.pc0 := by
  unfold State.storeAt State.registerWrite State.withSci State.extWrite
  split <;> first | rfl | (split <;> rfl)

@[simp] theorem State.storeAt_extMap (s : State) (a : Addr) (v : Byte) : (s.storeAt a v).extMap = s.extMap := by
  unfold State.storeAt State.registerWrite State.withSci State.extWrite
  split <;> first | rfl | (split <;> rfl)

@[simp] theorem State.storeAt_resetCycles (s : State) (a : Addr) (v : Byte) : (s.storeAt a v).resetCycles = s.resetCycles := by
  unfold State.storeAt State.registerWrite State.withSci State.extWrite
  split <;> first | rfl | (split <;> rfl)

@[simp] theorem State.storeAt_pins (s : State) (a : Addr) (v : Byte) : (s.storeAt a v).pins = s.pins := by
  unfold State.storeAt State.registerWrite State.withSci State.extWrite
  split <;> first | rfl | (split <;> rfl)

@[simp] theorem State.storeAt_inputs (s : State) (a : Addr) (v : Byte) : (s.storeAt a v).inputs = s.inputs := by
  unfold State.storeAt State.registerWrite State.withSci State.extWrite
  split <;> first | rfl | (split <;> rfl)

@[simp] theorem State.storeAt_cycles (s : State) (a : Addr) (v : Byte) : (s.storeAt a v).cycles = s.cycles := by
  unfold State.storeAt State.registerWrite State.withSci State.extWrite
  split <;> first | rfl | (split <;> rfl)

@[simp] theorem State.storeAt_resetSeen (s : State) (a : Addr) (v : Byte) : (s.storeAt a v).resetSeen = s.resetSeen := by
  unfold State.storeAt State.registerWrite State.withSci State.extWrite
  split <;> first | rfl | (split <;> rfl)

@[simp] theorem State.storeAt_powerLost (s : State) (a : Addr) (v : Byte) : (s.storeAt a v).powerLost = s.powerLost := by
  unfold State.storeAt State.registerWrite State.withSci State.extWrite
  split <;> first | rfl | (split <;> rfl)

@[simp] theorem State.storeAt_standbyLost (s : State) (a : Addr) (v : Byte) : (s.storeAt a v).standbyLost = s.standbyLost := by
  unfold State.storeAt State.registerWrite State.withSci State.extWrite
  split <;> first | rfl | (split <;> rfl)

@[simp] theorem State.storeAt_nmiPending (s : State) (a : Addr) (v : Byte) : (s.storeAt a v).nmiPending = s.nmiPending := by
  unfold State.storeAt State.registerWrite State.withSci State.extWrite
  split <;> first | rfl | (split <;> rfl)

/-- A write of a plain address changes memory only. -/
theorem State.storeAt_of_plain {s : State} {a : Addr} (h : s.plain a = true) (v : Byte) :
    s.storeAt a v = { s with ext := (s.storeAt a v).ext, ram := (s.storeAt a v).ram } := by
  rcases (State.plain_iff s a).1 h with h | h <;> simp only [State.storeAt, h]
  unfold State.extWrite; split <;> rfl

/-- Addresses of the address space as keys: distinct addresses are distinct keys. -/
theorem Addr.toNat_ne {a b : Addr} (h : a ≠ b) : a.toNat ≠ b.toNat := fun e => h (BitVec.eq_of_toNat_eq e)

/-- A write keeps the memories canonical. -/
theorem State.memoryOk_storeAt {s : State} (h : s.memoryOk = true) (a : Addr) (v : Byte) : (s.storeAt a v).memoryOk = true := by
  unfold State.storeAt
  split
  · unfold State.registerWrite State.withSci; split <;> exact h
  · unfold State.extWrite
    split
    · simp only [State.memoryOk, Memory.wf, Bool.and_eq_true] at h ⊢
      exact ⟨Memory.wfWithin_set h.1 (by omega) (by have := a.isLt; omega), h.2⟩
    · exact h
    · exact h
  · exact h
  · rename_i hr
    simp only [State.memoryOk, Bool.and_eq_true] at h ⊢
    refine ⟨h.1, Memory.wfWithin_set h.2 ?_ ?_⟩ <;>
    · unfold State.region at hr
      dsimp only at hr
      split at hr <;> [cases hr; split at hr <;> [cases hr; split at hr <;> [cases hr; split at hr <;> [omega; cases hr]]]]

/-- What a write makes of the byte it goes to. -/
theorem State.storeAt_byteAt_self {s : State} (h : s.memoryOk = true) (a : Addr) (v : Byte) :
    (s.storeAt a v).byteAt a = s.bytesStored a v := by
  simp only [State.memoryOk, Memory.wf, Bool.and_eq_true] at h
  unfold State.storeAt State.bytesStored State.byteAt
  split <;> rename_i hr <;> simp only [hr]
  · unfold State.registerWrite State.withSci; split <;> rfl
  · unfold State.extWrite
    split <;> rename_i hk <;> simp only [hk]
    rw [Memory.get_set_self h.1]
  · rw [Memory.get_set_self h.2]

/-- A write leaves every other byte of memory alone. -/
theorem State.storeAt_byteAt_of_ne {s : State} (h : s.memoryOk = true) {a b : Addr} (hb : b ≠ a) (v : Byte) :
    (s.storeAt a v).byteAt b = s.byteAt b := by
  simp only [State.memoryOk, Memory.wf, Bool.and_eq_true] at h
  unfold State.storeAt State.byteAt
  split
  · unfold State.registerWrite State.withSci; split <;> rfl
  · unfold State.extWrite
    split
    · simp only [Memory.get_set_of_ne h.1 (Addr.toNat_ne hb)]
    · rfl
    · rfl
  · rfl
  · simp only [Memory.get_set_of_ne h.2 (Addr.toNat_ne hb)]

/-! ### Memory across cycles and accesses -/

/-- The memories' canonical form is a matter of the memories. -/
theorem State.memoryOk_congr {s t : State} (he : t.ext = s.ext) (hr : t.ram = s.ram) : t.memoryOk = s.memoryOk := by
  unfold State.memoryOk; rw [he, hr]

theorem State.memoryOk_busWrite {s : State} (h : s.memoryOk = true) (a : Addr) (v : Byte) :
    (s.busWrite a v).memoryOk = true :=
  State.memoryOk_storeAt ((State.memoryOk_congr (by simp) (by simp)).trans h) a v

theorem SameMemory.refl (s : State) : SameMemory s s := fun _ => rfl

theorem SameMemory.trans {s t u : State} (h : SameMemory s t) (k : SameMemory t u) : SameMemory s u :=
  fun a => (k a).trans (h a)

/-- Equal stores are the same memory. -/
theorem SameMemory.of_eq {s t : State} (he : t.ext = s.ext) (hr : t.ram = s.ram) : SameMemory s t := fun a => by
  unfold State.byteAt; rw [he, hr]

/-- What a bus write makes of memory. -/
theorem State.busWrite_byteAt {s : State} (h : s.memoryOk = true) (a b : Addr) (v : Byte) :
    (s.busWrite a v).byteAt b = if b = a then s.bytesStored a v else s.byteAt b := by
  have hm : (s.tickWith (a == 0x0009#16)).memoryOk = true := (State.memoryOk_congr (by simp) (by simp)).trans h
  unfold State.busWrite
  split
  · subst_vars
    rw [State.storeAt_byteAt_self hm]
    simp [State.bytesStored, State.byteAt]
  · rw [State.storeAt_byteAt_of_ne hm ‹_›]; simp

theorem Stores.nil {s t : State} (h : SameMemory s t) : Stores [] s t := ⟨by simp, fun a _ => h a⟩

/-- One more byte is stored, at an address not stored to before and where the decoder sends it as at the start. -/
theorem Stores.snoc {vs : List (Addr × Byte)} {s t : State} (h : Stores vs s t) (hm : t.memoryOk = true) {a : Addr}
    (ha : a ∉ vs.map (·.1)) (hr : t.region a = s.region a) (hx : t.extMap = s.extMap) (v : Byte) : Stores (vs ++ [(a, v)]) s (t.busWrite a v) := by
  have hs : t.bytesStored a v = s.bytesStored a v := by
    have := h.2 a ha
    unfold State.bytesStored
    rw [hr, State.extKind_congr hx]
    simp only [State.byteAt, Prod.mk.injEq] at this ⊢
    split <;> simp [this]
  constructor
  · intro p hp
    rw [State.busWrite_byteAt hm]
    simp only [List.mem_append, List.mem_singleton] at hp
    split
    · rcases hp with hp | rfl
      · exact absurd (List.mem_map.2 ⟨p, hp, ‹_›⟩) ha
      · exact hs
    · rcases hp with hp | rfl
      · exact h.1 p hp
      · exact absurd rfl ‹_›
  · intro b hb
    simp only [List.map_append, List.map_cons, List.map_nil, List.mem_append, List.mem_singleton, not_or] at hb
    rw [State.busWrite_byteAt hm, if_neg hb.2]
    exact h.2 b hb.1

/-- A state with the same memory stores the same. -/
theorem Stores.congr {vs : List (Addr × Byte)} {s t u : State} (h : Stores vs s t) (k : SameMemory t u) : Stores vs s u :=
  ⟨fun p hp => (k p.1).trans (h.1 p hp), fun a ha => (k a).trans (h.2 a ha)⟩

/-! ### Time -/

theorem TimeOnly.zero (s : State) : TimeOnly 0 s s := rfl

/-- One more E cycle. -/
theorem TimeOnly.tick {n : Nat} {s t : State} (h : TimeOnly n s t) : TimeOnly (n + 1) s t.tick := by
  unfold TimeOnly at h ⊢
  rw [State.ticks_succ]
  conv_lhs => rw [h]
  show State.tickWith false _ = _
  rw [State.tickWith_congr]
  simp [State.tick]

/-- MPU registers, the run state, the hold-off and memory are free. -/
theorem TimeOnly.change {n : Nat} {s t : State} (h : TimeOnly n s t) (c : Cpu) (r : RunState) (i : Bool) (e m : Memory) :
    TimeOnly n s { t with cpu := c, run := r, irqHoldoff := i, ext := e, ram := m } := by
  unfold TimeOnly at h ⊢
  conv_lhs => rw [h]

/-- A discarded read of a quiet address. -/
theorem TimeOnly.discard {n : Nat} {s t : State} (h : TimeOnly n s t) {a : Addr} (ha : quietRead a = true) :
    TimeOnly (n + 1) s (t.busDiscard a) := by
  unfold State.busDiscard; rw [State.readEffect_of_quiet _ ha]; exact h.tick

/-- A read of a quiet address. -/
theorem TimeOnly.read {n : Nat} {s t : State} (h : TimeOnly n s t) {a : Addr} (ha : quietRead a = true) :
    TimeOnly (n + 1) s (t.busRead a).2 := h.discard ha

/-- A write of a plain address. -/
theorem TimeOnly.write {n : Nat} {s t : State} (h : TimeOnly n s t) {a : Addr} (ha : t.plain a = true) (v : Byte) :
    TimeOnly (n + 1) s (t.busWrite a v) := by
  have h9 : (a == 0x0009#16) = false := by
    cases h9 : a == 0x0009#16 with
    | false => rfl
    | true =>
      rw [beq_iff_eq] at h9
      subst h9
      have hr : t.region 0x0009#16 = .register := rfl
      rcases (State.plain_iff t _).1 ha with h | h <;> rw [hr] at h <;> cases h
  unfold State.busWrite
  rw [h9]
  have hp : (t.tickWith false).plain a = true := (State.tick_plain t a).trans ha
  rw [State.storeAt_of_plain hp]
  have := h.tick.change t.tick.cpu t.tick.run t.tick.irqHoldoff ((t.tickWith false).storeAt a v).ext
    ((t.tickWith false).storeAt a v).ram
  exact this

/-! ### Bus accesses: what they leave alone -/

@[simp] theorem State.busDiscard_cpu (s : State) (a : Addr) : (s.busDiscard a).cpu = s.cpu := by simp [State.busDiscard]

@[simp] theorem State.busDiscard_run (s : State) (a : Addr) : (s.busDiscard a).run = s.run := by simp [State.busDiscard]

@[simp] theorem State.busDiscard_irqHoldoff (s : State) (a : Addr) : (s.busDiscard a).irqHoldoff = s.irqHoldoff := by simp [State.busDiscard]

@[simp] theorem State.busDiscard_pc1 (s : State) (a : Addr) : (s.busDiscard a).pc1 = s.pc1 := by simp [State.busDiscard]

@[simp] theorem State.busDiscard_pc0 (s : State) (a : Addr) : (s.busDiscard a).pc0 = s.pc0 := by simp [State.busDiscard]

@[simp] theorem State.busDiscard_extMap (s : State) (a : Addr) : (s.busDiscard a).extMap = s.extMap := by simp [State.busDiscard]

@[simp] theorem State.busDiscard_resetCycles (s : State) (a : Addr) : (s.busDiscard a).resetCycles = s.resetCycles := by simp [State.busDiscard]

@[simp] theorem State.busDiscard_ports (s : State) (a : Addr) : (s.busDiscard a).ports = s.ports := by simp [State.busDiscard]

@[simp] theorem State.busDiscard_ext (s : State) (a : Addr) : (s.busDiscard a).ext = s.ext := by simp [State.busDiscard]

@[simp] theorem State.busDiscard_ram (s : State) (a : Addr) : (s.busDiscard a).ram = s.ram := by simp [State.busDiscard]

@[simp] theorem State.busDiscard_rame (s : State) (a : Addr) : (s.busDiscard a).ramcr.rame = s.ramcr.rame := by simp [State.busDiscard]

@[simp] theorem State.busDiscard_region (s : State) (a : Addr) (b : Addr) : (s.busDiscard a).region b = s.region b := by simp [State.busDiscard]

@[simp] theorem State.busRead_cpu (s : State) (a : Addr) : ((s.busRead a).2).cpu = s.cpu := by simp [State.busRead]

@[simp] theorem State.busRead_run (s : State) (a : Addr) : ((s.busRead a).2).run = s.run := by simp [State.busRead]

@[simp] theorem State.busRead_irqHoldoff (s : State) (a : Addr) : ((s.busRead a).2).irqHoldoff = s.irqHoldoff := by simp [State.busRead]

@[simp] theorem State.busRead_pc1 (s : State) (a : Addr) : ((s.busRead a).2).pc1 = s.pc1 := by simp [State.busRead]

@[simp] theorem State.busRead_pc0 (s : State) (a : Addr) : ((s.busRead a).2).pc0 = s.pc0 := by simp [State.busRead]

@[simp] theorem State.busRead_extMap (s : State) (a : Addr) : ((s.busRead a).2).extMap = s.extMap := by simp [State.busRead]

@[simp] theorem State.busRead_resetCycles (s : State) (a : Addr) : ((s.busRead a).2).resetCycles = s.resetCycles := by simp [State.busRead]

@[simp] theorem State.busRead_ports (s : State) (a : Addr) : ((s.busRead a).2).ports = s.ports := by simp [State.busRead]

@[simp] theorem State.busRead_ext (s : State) (a : Addr) : ((s.busRead a).2).ext = s.ext := by simp [State.busRead]

@[simp] theorem State.busRead_ram (s : State) (a : Addr) : ((s.busRead a).2).ram = s.ram := by simp [State.busRead]

@[simp] theorem State.busRead_rame (s : State) (a : Addr) : ((s.busRead a).2).ramcr.rame = s.ramcr.rame := by simp [State.busRead]

@[simp] theorem State.busRead_region (s : State) (a : Addr) (b : Addr) : ((s.busRead a).2).region b = s.region b := by simp [State.busRead]

@[simp] theorem State.busIdle_cpu (s : State) : (s.busIdle).cpu = s.cpu := by simp [State.busIdle]

@[simp] theorem State.busIdle_run (s : State) : (s.busIdle).run = s.run := by simp [State.busIdle]

@[simp] theorem State.busIdle_irqHoldoff (s : State) : (s.busIdle).irqHoldoff = s.irqHoldoff := by simp [State.busIdle]

@[simp] theorem State.busIdle_pc1 (s : State) : (s.busIdle).pc1 = s.pc1 := by simp [State.busIdle]

@[simp] theorem State.busIdle_pc0 (s : State) : (s.busIdle).pc0 = s.pc0 := by simp [State.busIdle]

@[simp] theorem State.busIdle_extMap (s : State) : (s.busIdle).extMap = s.extMap := by simp [State.busIdle]

@[simp] theorem State.busIdle_resetCycles (s : State) : (s.busIdle).resetCycles = s.resetCycles := by simp [State.busIdle]

@[simp] theorem State.busIdle_ports (s : State) : (s.busIdle).ports = s.ports := by simp [State.busIdle]

@[simp] theorem State.busIdle_ext (s : State) : (s.busIdle).ext = s.ext := by simp [State.busIdle]

@[simp] theorem State.busIdle_ram (s : State) : (s.busIdle).ram = s.ram := by simp [State.busIdle]

@[simp] theorem State.busIdle_rame (s : State) : (s.busIdle).ramcr.rame = s.ramcr.rame := by simp [State.busIdle]

@[simp] theorem State.busIdle_region (s : State) (b : Addr) : (s.busIdle).region b = s.region b := by simp [State.busIdle]

@[simp] theorem State.busWrite_cpu (s : State) (a : Addr) (v : Byte) : (s.busWrite a v).cpu = s.cpu := by simp [State.busWrite]

@[simp] theorem State.busWrite_run (s : State) (a : Addr) (v : Byte) : (s.busWrite a v).run = s.run := by simp [State.busWrite]

@[simp] theorem State.busWrite_irqHoldoff (s : State) (a : Addr) (v : Byte) : (s.busWrite a v).irqHoldoff = s.irqHoldoff := by simp [State.busWrite]

@[simp] theorem State.busWrite_pc1 (s : State) (a : Addr) (v : Byte) : (s.busWrite a v).pc1 = s.pc1 := by simp [State.busWrite]

@[simp] theorem State.busWrite_pc0 (s : State) (a : Addr) (v : Byte) : (s.busWrite a v).pc0 = s.pc0 := by simp [State.busWrite]

@[simp] theorem State.busWrite_extMap (s : State) (a : Addr) (v : Byte) : (s.busWrite a v).extMap = s.extMap := by simp [State.busWrite]

@[simp] theorem State.busWrite_resetCycles (s : State) (a : Addr) (v : Byte) : (s.busWrite a v).resetCycles = s.resetCycles := by simp [State.busWrite]

/-- A bus read of memory gives the byte there. -/
theorem State.busRead_of_readable {s : State} {a : Addr} (h : s.readable a = true) : (s.busRead a).1 = s.peek a := by
  have hp : s.tick.readable a = true := (State.tick_readable s a).trans h
  exact (State.valueAt_of_readable hp).trans (State.tick_peek s a)

end Sys2Proof.Machine
end

