-- ==== Sys2Proof/Laws/Ops.lean ====
section
/-! SUPPORT. What the shared operations can do, said once: the stop at reserved addresses, operand reads, the stack. -/

namespace Sys2Proof.Machine

/-! ### The stop at reserved addresses -/

/-- Everything `guardBus` can answer. -/
theorem guardBus_eq_next {as : List Addr} {t u : State} :
    guardBus as t = .next u ↔ (∀ a ∈ as, isReserved a = false) ∧ t = u := by
  unfold guardBus
  split
  · rename_i a h
    simp only [reduceCtorEq, false_iff, not_and]
    intro hall
    have h1 := List.find?_some h
    rw [hall a (List.mem_of_find?_eq_some h)] at h1
    cases h1
  · rename_i h
    rw [List.find?_eq_none] at h
    simp only [Host.Outcome.next.injEq, iff_and_self]
    intro _ a ha
    simpa using h a ha

theorem guardBus_of {as : List Addr} {t : State} (h : ∀ a ∈ as, isReserved a = false) : guardBus as t = .next t :=
  guardBus_eq_next.2 ⟨h, rfl⟩

/-- The first reserved address is the one the refusal names. -/
theorem guardBus_cons_reserved {a : Addr} {as : List Addr} {t : State} (h : isReserved a = true) :
    guardBus (a :: as) t = .refused (.reservedAddress a) := by
  unfold guardBus; rw [List.find?_cons_of_pos h]

/-! ### What reading leaves alone -/

/-- `t` is `s` after bus reads only: as `Completes` says of an instruction that stores nothing. -/
structure ReadsOnly (s t : State) : Prop where
  cpu : t.cpu = s.cpu
  control : SameControl s t
  ports : SamePorts s t
  ext : t.ext = s.ext
  ram : t.ram = s.ram

theorem ReadsOnly.memory {s t : State} (h : ReadsOnly s t) : SameMemory s t := SameMemory.of_eq h.ext h.ram

theorem ReadsOnly.refl (s : State) : ReadsOnly s s :=
  ⟨rfl, ⟨rfl, rfl, rfl, rfl, rfl, rfl⟩, ⟨rfl, rfl⟩, rfl, rfl⟩

theorem ReadsOnly.trans {s t u : State} (h : ReadsOnly s t) (k : ReadsOnly t u) : ReadsOnly s u := by
  obtain ⟨h1, ⟨a1, a2, a3, a4, a5, a6⟩, ⟨p1, p2⟩, e, m⟩ := h
  obtain ⟨k1, ⟨b1, b2, b3, b4, b5, b6⟩, ⟨q1, q2⟩, f, n⟩ := k
  exact ⟨k1.trans h1,
    ⟨b1.trans a1, b2.trans a2, b3.trans a3, b4.trans a4, b5.trans a5, b6.trans a6⟩, ⟨q1.trans p1, q2.trans p2⟩,
    f.trans e, n.trans m⟩

theorem ReadsOnly.region {s t : State} (h : ReadsOnly s t) (a : Addr) : t.region a = s.region a :=
  State.region_congr h.control.2.2.1 h.control.2.2.2.1 h.ports.2 a

theorem ReadsOnly.plain {s t : State} (h : ReadsOnly s t) (a : Addr) : t.plain a = s.plain a := by
  unfold State.plain; rw [h.region]

theorem ReadsOnly.readable {s t : State} (h : ReadsOnly s t) (a : Addr) : t.readable a = s.readable a := by
  unfold State.readable; rw [h.region, State.extKind_congr h.control.2.2.2.2.2]

theorem ReadsOnly.peek {s t : State} (h : ReadsOnly s t) (a : Addr) : t.peek a = s.peek a := by
  unfold State.peek; rw [h.region, h.ext, h.ram]

theorem State.busDiscard_readsOnly (a : Addr) (s : State) : ReadsOnly s (s.busDiscard a) :=
  ⟨by simp, ⟨by simp, by simp, by simp, by simp, by simp, by simp⟩, ⟨by simp, by simp⟩, by simp, by simp⟩

theorem State.busRead_readsOnly (a : Addr) (s : State) : ReadsOnly s (s.busRead a).2 := State.busDiscard_readsOnly a s

theorem State.busIdle_readsOnly (s : State) : ReadsOnly s s.busIdle :=
  ⟨by simp, ⟨by simp, by simp, by simp, by simp, by simp, by simp⟩, ⟨by simp, by simp⟩, by simp, by simp⟩

theorem State.idles_readsOnly (n : Nat) (s : State) : ReadsOnly s (s.idles n) := by
  induction n generalizing s with
  | zero => exact .refl s
  | succ n ih => exact (State.busIdle_readsOnly s).trans (ih s.busIdle)

theorem State.busRead16_readsOnly (a : Addr) (s : State) : ReadsOnly s (s.busRead16 a).2 :=
  (State.busRead_readsOnly a s).trans (State.busRead_readsOnly (a + 1) _)

/-! ### Operands -/

/-- Cycles of a memory operand before its first access. -/
def Mem.leadCycles (o : Mem) : Nat :=
  match o with
  | .dir _ => 0
  | .ext _ => 0
  | .idx _ => 1

theorem Mem.lead_readsOnly (o : Mem) (s : State) : ReadsOnly s (o.lead s) := by
  cases o with
  | dir _ => exact .refl s
  | ext _ => exact .refl s
  | idx _ => exact State.busIdle_readsOnly s

theorem Mem.lead_time (o : Mem) (s : State) : TimeOnly o.leadCycles s (o.lead s) := by
  cases o with
  | dir _ => exact TimeOnly.zero s
  | ext _ => exact TimeOnly.zero s
  | idx _ => exact (TimeOnly.zero s).tick

theorem Mem.read8_readsOnly (o : Mem) (s : State) : ReadsOnly s (o.read8 s).2 :=
  (o.lead_readsOnly s).trans (State.busRead_readsOnly _ _)

theorem Mem.read16_readsOnly (o : Mem) (s : State) : ReadsOnly s (o.read16 s).2 :=
  (o.lead_readsOnly s).trans (State.busRead16_readsOnly _ _)

theorem Mem.read8_time (o : Mem) (s : State) (h : quietRead (o.ea s) = true) :
    TimeOnly (o.leadCycles + 1) s (o.read8 s).2 := (o.lead_time s).read h

theorem Mem.read16_time (o : Mem) (s : State) (h : quietRead (o.ea s) = true) (h1 : quietRead (o.ea s + 1) = true) :
    TimeOnly (o.leadCycles + 2) s (o.read16 s).2 := ((o.lead_time s).read h).read h1

/-- A memory operand in memory is the byte there. -/
theorem Mem.read8_of_readable {o : Mem} {s : State} (h : s.readable (o.ea s) = true) : (o.read8 s).1 = s.peek (o.ea s) := by
  have hp : (o.lead s).readable (o.ea s) = true := ((o.lead_readsOnly s).readable _).trans h
  exact (State.busRead_of_readable hp).trans ((o.lead_readsOnly s).peek _)

/-- A 16-bit memory operand in memory is the two bytes there, high byte first. -/
theorem Mem.read16_of_readable {o : Mem} {s : State} (h : s.readable (o.ea s) = true) (h1 : s.readable (o.ea s + 1) = true) :
    (o.read16 s).1 = s.peek16 (o.ea s) := by
  have hl := o.lead_readsOnly s
  have h2 := hl.trans (State.busRead_readsOnly (o.ea s) (o.lead s))
  show join _ _ = join _ _
  rw [State.busRead_of_readable ((hl.readable _).trans h), State.busRead_of_readable ((h2.readable _).trans h1), hl.peek, h2.peek]

/-- Cycles of a one-byte source. -/
def Src8.cycles (o : Src8) : Nat :=
  match o with
  | .imm _ => 0
  | .mem e => e.leadCycles + 1

theorem Src8.read_readsOnly (o : Src8) (s : State) : ReadsOnly s (o.read s).2 := by
  cases o with
  | imm m => exact .refl s
  | mem e => exact e.read8_readsOnly s

theorem Src8.read_time (o : Src8) (s : State) (h : ∀ a ∈ o.addrs s, quietRead a = true) :
    TimeOnly o.cycles s (o.read s).2 := by
  cases o with
  | imm m => exact TimeOnly.zero s
  | mem e => exact e.read8_time s (h _ (by simp [Src8.addrs]))

/-- Cycles of a two-byte source. -/
def Src16.cycles (o : Src16) : Nat :=
  match o with
  | .imm _ => 0
  | .mem e => e.leadCycles + 2

theorem Src16.read_readsOnly (o : Src16) (s : State) : ReadsOnly s (o.read s).2 := by
  cases o with
  | imm m => exact .refl s
  | mem e => exact e.read16_readsOnly s

theorem Src16.read_time (o : Src16) (s : State) (h : ∀ a ∈ o.addrs s, quietRead a = true) :
    TimeOnly o.cycles s (o.read s).2 := by
  cases o with
  | imm m => exact TimeOnly.zero s
  | mem e => exact e.read16_time s (h _ (by simp [Src16.addrs, Mem.pair])) (h _ (by simp [Src16.addrs, Mem.pair]))

/-! ### Completing -/

/-- An instruction that answers a state read from `s` with its MPU registers replaced completes. -/
theorem Completes.intro {i : Instr} {s u : State} {cpu : Cpu} {reads : List Addr} (hr : ReadsOnly s u)
    (he : exec i s = .next { u with cpu := cpu })
    (ht : (∀ a ∈ reads, quietRead a = true) → TimeOnly (cyclesLeft i) s u) : Completes i s cpu reads :=
  ⟨_, he, rfl, hr.control, hr.ports, hr.memory, fun h => (ht h).change cpu u.run u.irqHoldoff u.ext u.ram⟩

/-! ### The stack -/

@[simp] theorem State.push8_cpu (v : Byte) (s : State) : (s.push8 v).cpu = { s.cpu with sp := s.cpu.sp - 1 } := by
  simp [State.push8, State.withSp]

@[simp] theorem State.push8_run (v : Byte) (s : State) : (s.push8 v).run = s.run := by simp [State.push8]

@[simp] theorem State.push8_irqHoldoff (v : Byte) (s : State) : (s.push8 v).irqHoldoff = s.irqHoldoff := by
  simp [State.push8]

@[simp] theorem State.push8_pc1 (v : Byte) (s : State) : (s.push8 v).pc1 = s.pc1 := by simp [State.push8]

@[simp] theorem State.push8_pc0 (v : Byte) (s : State) : (s.push8 v).pc0 = s.pc0 := by simp [State.push8]

@[simp] theorem State.push8_extMap (v : Byte) (s : State) : (s.push8 v).extMap = s.extMap := by simp [State.push8]

@[simp] theorem State.push8_resetCycles (v : Byte) (s : State) : (s.push8 v).resetCycles = s.resetCycles := by
  simp [State.push8]

theorem State.memoryOk_push8 {s : State} (h : s.memoryOk = true) (v : Byte) : (s.push8 v).memoryOk = true :=
  State.memoryOk_busWrite h s.cpu.sp v

/-- One more byte is pushed, at an address not stored to before and where the decoder sends it as at the start. -/
theorem Stores.push8 {vs : List (Addr × Byte)} {s t : State} (h : Stores vs s t) (hm : t.memoryOk = true)
    (ha : t.cpu.sp ∉ vs.map (·.1)) (hr : t.region t.cpu.sp = s.region t.cpu.sp) (hx : t.extMap = s.extMap) (v : Byte) :
    Stores (vs ++ [(t.cpu.sp, v)]) s (t.push8 v) :=
  (h.snoc hm ha hr hx v).congr fun _ => rfl

theorem TimeOnly.push8 {n : Nat} {s t : State} (h : TimeOnly n s t) (ha : t.plain t.cpu.sp = true) (v : Byte) :
    TimeOnly (n + 1) s (t.push8 v) :=
  (h.write ha v).change _ _ _ _ _

/-- A pull moves SP up and reads. -/
@[simp] theorem State.pull8_cpu (s : State) : s.pull8.2.cpu = { s.cpu with sp := s.cpu.sp + 1 } := by
  simp [State.pull8, State.withSp]

theorem State.pull8_time {n : Nat} {s t : State} (h : TimeOnly n s t) (ha : quietRead (t.cpu.sp + 1) = true) :
    TimeOnly (n + 1) s t.pull8.2 :=
  TimeOnly.read (h.change _ t.run t.irqHoldoff t.ext t.ram) ha

/-- A pull from memory gives the byte there. -/
theorem State.pull8_of_readable {s : State} (h : s.readable (s.cpu.sp + 1) = true) : s.pull8.1 = s.peek (s.cpu.sp + 1) :=
  State.busRead_of_readable (s := s.withSp (s.cpu.sp + 1)) h

end Sys2Proof.Machine
end

