-- ==== Sys2Proof/Laws/Forms.lean ====
section
/-! SUPPORT. The instructions of one shape run the operation of their shape, and the cycles they have left. -/

namespace Sys2Proof.Machine

/-- The operation of each two-operand instruction. -/
def BinOp.op (k : BinOp) : Ccr → Byte → Byte → Byte × Ccr :=
  match k with
  | .add => addOp
  | .adc => adcOp
  | .sub => subOp
  | .sbc => sbcOp
  | .and => andOp
  | .eor => eorOp
  | .ora => oraOp
  | .lda => ldaOp

/-- The operation of each comparison. -/
def CmpOp.op (k : CmpOp) : Ccr → Byte → Byte → Byte × Ccr :=
  match k with
  | .cmp => subOp
  | .bit => andOp

/-- The operation of each one-operand instruction. -/
def UnOp.op (k : UnOp) : Ccr → Byte → Byte × Ccr :=
  match k with
  | .neg => negOp
  | .com => comOp
  | .inc => incOp
  | .dec => decOp
  | .clr => clrOp
  | .asl => aslOp
  | .asr => asrOp
  | .lsr => lsrOp
  | .rol => rolOp
  | .ror => rorOp

theorem exec_binInstr (k : BinOp) (r : Acc) (o : Src8) (s : State) :
    exec (binInstr k r o) s = accBinary k.op r o s := by
  cases k <;> cases r <;> (rcases o with m | e <;> first | rfl | (cases e <;> rfl))

theorem exec_cmpInstr (k : CmpOp) (r : Acc) (o : Src8) (s : State) :
    exec (cmpInstr k r o) s = accCompare k.op r o s := by
  cases k <;> cases r <;> (rcases o with m | e <;> first | rfl | (cases e <;> rfl))

theorem exec_accInstr (k : UnOp) (r : Acc) (s : State) : exec (accInstr k r) s = accUnary k.op r s := by
  cases k <;> cases r <;> rfl

theorem exec_memInstr (k : UnOp) (o : Far) (s : State) : exec (memInstr k o) s = memUnary k.op o.mem s := by
  cases k <;> cases o <;> rfl

theorem exec_tstInstr (o : Far) (s : State) : exec (tstInstr o) s = memTest o.mem s := by cases o <;> rfl

theorem exec_storeAccInstr (r : Acc) (o : Mem) (s : State) : exec (storeAccInstr r o) s = storeAcc r o s := by
  cases r <;> cases o <;> rfl

theorem exec_loadInstr (r : Reg16) (o : Src16) (s : State) : exec (loadInstr r o) s = loadReg16 r o s := by
  cases r <;> (rcases o with m | e <;> first | rfl | (cases e <;> rfl))

theorem exec_storeInstr (r : Reg16) (o : Mem) (s : State) : exec (storeInstr r o) s = storeReg16 r o s := by
  cases r <;> cases o <;> rfl

theorem exec_adddInstr (o : Src16) (s : State) : exec (adddInstr o) s = dBinary add16 o s := by
  rcases o with m | e <;> first | rfl | (cases e <;> rfl)

theorem exec_subdInstr (o : Src16) (s : State) : exec (subdInstr o) s = dBinary sub16 o s := by
  rcases o with m | e <;> first | rfl | (cases e <;> rfl)

theorem exec_cpxInstr (o : Src16) (s : State) : exec (cpxInstr o) s = compareX o s := by
  rcases o with m | e <;> first | rfl | (cases e <;> rfl)

theorem exec_jmpInstr (o : Far) (s : State) : exec (jmpInstr o) s = jumpTo o.mem s := by cases o <;> rfl

theorem exec_jsrInstr (o : Mem) (s : State) : exec (jsrInstr o) s = callTo (o.ea s) (o.lead s) := by cases o <;> rfl

/-- The cycles a two-operand instruction has left are those of its operand. -/
theorem cyclesLeft_binInstr (k : BinOp) (r : Acc) (o : Src8) : cyclesLeft (binInstr k r o) = o.cycles := by
  cases k <;> cases r <;> (rcases o with m | e <;> first | rfl | (cases e <;> rfl))

theorem cyclesLeft_cmpInstr (k : CmpOp) (r : Acc) (o : Src8) : cyclesLeft (cmpInstr k r o) = o.cycles := by
  cases k <;> cases r <;> (rcases o with m | e <;> first | rfl | (cases e <;> rfl))

theorem cyclesLeft_loadInstr (r : Reg16) (o : Src16) : cyclesLeft (loadInstr r o) = o.cycles := by
  cases r <;> (rcases o with m | e <;> first | rfl | (cases e <;> rfl))

theorem cyclesLeft_memInstr (k : UnOp) (o : Far) : cyclesLeft (memInstr k o) = o.mem.leadCycles + 3 := by
  cases k <;> cases o <;> rfl

theorem cyclesLeft_storeAccInstr (r : Acc) (o : Mem) : cyclesLeft (storeAccInstr r o) = o.leadCycles + 1 := by
  cases r <;> cases o <;> rfl

theorem cyclesLeft_storeInstr (r : Reg16) (o : Mem) : cyclesLeft (storeInstr r o) = o.leadCycles + 2 := by
  cases r <;> cases o <;> rfl

end Sys2Proof.Machine
end

