-- ==== Sys2Proof/Laws/PerInstr.lean ====
section
/-! SUPPORT. Statements made for each instruction: that the encoder writes exactly the bytes its format has. -/

namespace Sys2Proof.Laws.EncodesToItsFormat

/-- The instruction is well formed, and its encoding is exactly the bytes of one instruction by the lengths of R122. -/
def Statement (i : Instr) : Prop := i.wellFormed = true ∧ wellFormedBytes (encode i) = true

theorem nop : Statement (.nop) := ⟨rfl, rfl⟩
theorem lsrd : Statement (.lsrd) := ⟨rfl, rfl⟩
theorem asld : Statement (.asld) := ⟨rfl, rfl⟩
theorem tap : Statement (.tap) := ⟨rfl, rfl⟩
theorem tpa : Statement (.tpa) := ⟨rfl, rfl⟩
theorem inx : Statement (.inx) := ⟨rfl, rfl⟩
theorem dex : Statement (.dex) := ⟨rfl, rfl⟩
theorem clv : Statement (.clv) := ⟨rfl, rfl⟩
theorem sev : Statement (.sev) := ⟨rfl, rfl⟩
theorem clc : Statement (.clc) := ⟨rfl, rfl⟩
theorem sec : Statement (.sec) := ⟨rfl, rfl⟩
theorem cli : Statement (.cli) := ⟨rfl, rfl⟩
theorem sei : Statement (.sei) := ⟨rfl, rfl⟩
theorem sba : Statement (.sba) := ⟨rfl, rfl⟩
theorem cba : Statement (.cba) := ⟨rfl, rfl⟩
theorem tab : Statement (.tab) := ⟨rfl, rfl⟩
theorem tba : Statement (.tba) := ⟨rfl, rfl⟩
theorem daa : Statement (.daa) := ⟨rfl, rfl⟩
theorem aba : Statement (.aba) := ⟨rfl, rfl⟩
theorem bra (rel : Byte) : Statement (.bra rel) := ⟨rfl, rfl⟩
theorem brn (rel : Byte) : Statement (.brn rel) := ⟨rfl, rfl⟩
theorem bhi (rel : Byte) : Statement (.bhi rel) := ⟨rfl, rfl⟩
theorem bls (rel : Byte) : Statement (.bls rel) := ⟨rfl, rfl⟩
theorem bcc (rel : Byte) : Statement (.bcc rel) := ⟨rfl, rfl⟩
theorem bcs (rel : Byte) : Statement (.bcs rel) := ⟨rfl, rfl⟩
theorem bne (rel : Byte) : Statement (.bne rel) := ⟨rfl, rfl⟩
theorem beq (rel : Byte) : Statement (.beq rel) := ⟨rfl, rfl⟩
theorem bvc (rel : Byte) : Statement (.bvc rel) := ⟨rfl, rfl⟩
theorem bvs (rel : Byte) : Statement (.bvs rel) := ⟨rfl, rfl⟩
theorem bpl (rel : Byte) : Statement (.bpl rel) := ⟨rfl, rfl⟩
theorem bmi (rel : Byte) : Statement (.bmi rel) := ⟨rfl, rfl⟩
theorem bge (rel : Byte) : Statement (.bge rel) := ⟨rfl, rfl⟩
theorem blt (rel : Byte) : Statement (.blt rel) := ⟨rfl, rfl⟩
theorem bgt (rel : Byte) : Statement (.bgt rel) := ⟨rfl, rfl⟩
theorem ble (rel : Byte) : Statement (.ble rel) := ⟨rfl, rfl⟩
theorem tsx : Statement (.tsx) := ⟨rfl, rfl⟩
theorem ins : Statement (.ins) := ⟨rfl, rfl⟩
theorem pula : Statement (.pula) := ⟨rfl, rfl⟩
theorem pulb : Statement (.pulb) := ⟨rfl, rfl⟩
theorem des : Statement (.des) := ⟨rfl, rfl⟩
theorem txs : Statement (.txs) := ⟨rfl, rfl⟩
theorem psha : Statement (.psha) := ⟨rfl, rfl⟩
theorem pshb : Statement (.pshb) := ⟨rfl, rfl⟩
theorem pulx : Statement (.pulx) := ⟨rfl, rfl⟩
theorem rts : Statement (.rts) := ⟨rfl, rfl⟩
theorem abx : Statement (.abx) := ⟨rfl, rfl⟩
theorem rti : Statement (.rti) := ⟨rfl, rfl⟩
theorem pshx : Statement (.pshx) := ⟨rfl, rfl⟩
theorem mul : Statement (.mul) := ⟨rfl, rfl⟩
theorem wai : Statement (.wai) := ⟨rfl, rfl⟩
theorem swi : Statement (.swi) := ⟨rfl, rfl⟩
theorem nega : Statement (.nega) := ⟨rfl, rfl⟩
theorem coma : Statement (.coma) := ⟨rfl, rfl⟩
theorem lsra : Statement (.lsra) := ⟨rfl, rfl⟩
theorem rora : Statement (.rora) := ⟨rfl, rfl⟩
theorem asra : Statement (.asra) := ⟨rfl, rfl⟩
theorem asla : Statement (.asla) := ⟨rfl, rfl⟩
theorem rola : Statement (.rola) := ⟨rfl, rfl⟩
theorem deca : Statement (.deca) := ⟨rfl, rfl⟩
theorem inca : Statement (.inca) := ⟨rfl, rfl⟩
theorem tsta : Statement (.tsta) := ⟨rfl, rfl⟩
theorem test4E : Statement (.test4E) := ⟨rfl, rfl⟩
theorem clra : Statement (.clra) := ⟨rfl, rfl⟩
theorem negb : Statement (.negb) := ⟨rfl, rfl⟩
theorem comb : Statement (.comb) := ⟨rfl, rfl⟩
theorem lsrb : Statement (.lsrb) := ⟨rfl, rfl⟩
theorem rorb : Statement (.rorb) := ⟨rfl, rfl⟩
theorem asrb : Statement (.asrb) := ⟨rfl, rfl⟩
theorem aslb : Statement (.aslb) := ⟨rfl, rfl⟩
theorem rolb : Statement (.rolb) := ⟨rfl, rfl⟩
theorem decb : Statement (.decb) := ⟨rfl, rfl⟩
theorem incb : Statement (.incb) := ⟨rfl, rfl⟩
theorem tstb : Statement (.tstb) := ⟨rfl, rfl⟩
theorem test5E : Statement (.test5E) := ⟨rfl, rfl⟩
theorem clrb : Statement (.clrb) := ⟨rfl, rfl⟩
theorem negIdx (off : Byte) : Statement (.negIdx off) := ⟨rfl, rfl⟩
theorem comIdx (off : Byte) : Statement (.comIdx off) := ⟨rfl, rfl⟩
theorem lsrIdx (off : Byte) : Statement (.lsrIdx off) := ⟨rfl, rfl⟩
theorem rorIdx (off : Byte) : Statement (.rorIdx off) := ⟨rfl, rfl⟩
theorem asrIdx (off : Byte) : Statement (.asrIdx off) := ⟨rfl, rfl⟩
theorem aslIdx (off : Byte) : Statement (.aslIdx off) := ⟨rfl, rfl⟩
theorem rolIdx (off : Byte) : Statement (.rolIdx off) := ⟨rfl, rfl⟩
theorem decIdx (off : Byte) : Statement (.decIdx off) := ⟨rfl, rfl⟩
theorem incIdx (off : Byte) : Statement (.incIdx off) := ⟨rfl, rfl⟩
theorem tstIdx (off : Byte) : Statement (.tstIdx off) := ⟨rfl, rfl⟩
theorem jmpIdx (off : Byte) : Statement (.jmpIdx off) := ⟨rfl, rfl⟩
theorem clrIdx (off : Byte) : Statement (.clrIdx off) := ⟨rfl, rfl⟩
theorem negExt (a : Word) : Statement (.negExt a) := ⟨rfl, rfl⟩
theorem comExt (a : Word) : Statement (.comExt a) := ⟨rfl, rfl⟩
theorem lsrExt (a : Word) : Statement (.lsrExt a) := ⟨rfl, rfl⟩
theorem rorExt (a : Word) : Statement (.rorExt a) := ⟨rfl, rfl⟩
theorem asrExt (a : Word) : Statement (.asrExt a) := ⟨rfl, rfl⟩
theorem aslExt (a : Word) : Statement (.aslExt a) := ⟨rfl, rfl⟩
theorem rolExt (a : Word) : Statement (.rolExt a) := ⟨rfl, rfl⟩
theorem decExt (a : Word) : Statement (.decExt a) := ⟨rfl, rfl⟩
theorem incExt (a : Word) : Statement (.incExt a) := ⟨rfl, rfl⟩
theorem tstExt (a : Word) : Statement (.tstExt a) := ⟨rfl, rfl⟩
theorem jmpExt (a : Word) : Statement (.jmpExt a) := ⟨rfl, rfl⟩
theorem clrExt (a : Word) : Statement (.clrExt a) := ⟨rfl, rfl⟩
theorem subaImm (m : Byte) : Statement (.subaImm m) := ⟨rfl, rfl⟩
theorem cmpaImm (m : Byte) : Statement (.cmpaImm m) := ⟨rfl, rfl⟩
theorem sbcaImm (m : Byte) : Statement (.sbcaImm m) := ⟨rfl, rfl⟩
theorem subdImm (m : Word) : Statement (.subdImm m) := ⟨rfl, rfl⟩
theorem andaImm (m : Byte) : Statement (.andaImm m) := ⟨rfl, rfl⟩
theorem bitaImm (m : Byte) : Statement (.bitaImm m) := ⟨rfl, rfl⟩
theorem ldaaImm (m : Byte) : Statement (.ldaaImm m) := ⟨rfl, rfl⟩
theorem eoraImm (m : Byte) : Statement (.eoraImm m) := ⟨rfl, rfl⟩
theorem adcaImm (m : Byte) : Statement (.adcaImm m) := ⟨rfl, rfl⟩
theorem oraaImm (m : Byte) : Statement (.oraaImm m) := ⟨rfl, rfl⟩
theorem addaImm (m : Byte) : Statement (.addaImm m) := ⟨rfl, rfl⟩
theorem cpxImm (m : Word) : Statement (.cpxImm m) := ⟨rfl, rfl⟩
theorem bsr (rel : Byte) : Statement (.bsr rel) := ⟨rfl, rfl⟩
theorem ldsImm (m : Word) : Statement (.ldsImm m) := ⟨rfl, rfl⟩
theorem subaDir (a : Byte) : Statement (.subaDir a) := ⟨rfl, rfl⟩
theorem cmpaDir (a : Byte) : Statement (.cmpaDir a) := ⟨rfl, rfl⟩
theorem sbcaDir (a : Byte) : Statement (.sbcaDir a) := ⟨rfl, rfl⟩
theorem subdDir (a : Byte) : Statement (.subdDir a) := ⟨rfl, rfl⟩
theorem andaDir (a : Byte) : Statement (.andaDir a) := ⟨rfl, rfl⟩
theorem bitaDir (a : Byte) : Statement (.bitaDir a) := ⟨rfl, rfl⟩
theorem ldaaDir (a : Byte) : Statement (.ldaaDir a) := ⟨rfl, rfl⟩
theorem staaDir (a : Byte) : Statement (.staaDir a) := ⟨rfl, rfl⟩
theorem eoraDir (a : Byte) : Statement (.eoraDir a) := ⟨rfl, rfl⟩
theorem adcaDir (a : Byte) : Statement (.adcaDir a) := ⟨rfl, rfl⟩
theorem oraaDir (a : Byte) : Statement (.oraaDir a) := ⟨rfl, rfl⟩
theorem addaDir (a : Byte) : Statement (.addaDir a) := ⟨rfl, rfl⟩
theorem cpxDir (a : Byte) : Statement (.cpxDir a) := ⟨rfl, rfl⟩
theorem jsrDir (a : Byte) : Statement (.jsrDir a) := ⟨rfl, rfl⟩
theorem ldsDir (a : Byte) : Statement (.ldsDir a) := ⟨rfl, rfl⟩
theorem stsDir (a : Byte) : Statement (.stsDir a) := ⟨rfl, rfl⟩
theorem subaIdx (off : Byte) : Statement (.subaIdx off) := ⟨rfl, rfl⟩
theorem cmpaIdx (off : Byte) : Statement (.cmpaIdx off) := ⟨rfl, rfl⟩
theorem sbcaIdx (off : Byte) : Statement (.sbcaIdx off) := ⟨rfl, rfl⟩
theorem subdIdx (off : Byte) : Statement (.subdIdx off) := ⟨rfl, rfl⟩
theorem andaIdx (off : Byte) : Statement (.andaIdx off) := ⟨rfl, rfl⟩
theorem bitaIdx (off : Byte) : Statement (.bitaIdx off) := ⟨rfl, rfl⟩
theorem ldaaIdx (off : Byte) : Statement (.ldaaIdx off) := ⟨rfl, rfl⟩
theorem staaIdx (off : Byte) : Statement (.staaIdx off) := ⟨rfl, rfl⟩
theorem eoraIdx (off : Byte) : Statement (.eoraIdx off) := ⟨rfl, rfl⟩
theorem adcaIdx (off : Byte) : Statement (.adcaIdx off) := ⟨rfl, rfl⟩
theorem oraaIdx (off : Byte) : Statement (.oraaIdx off) := ⟨rfl, rfl⟩
theorem addaIdx (off : Byte) : Statement (.addaIdx off) := ⟨rfl, rfl⟩
theorem cpxIdx (off : Byte) : Statement (.cpxIdx off) := ⟨rfl, rfl⟩
theorem jsrIdx (off : Byte) : Statement (.jsrIdx off) := ⟨rfl, rfl⟩
theorem ldsIdx (off : Byte) : Statement (.ldsIdx off) := ⟨rfl, rfl⟩
theorem stsIdx (off : Byte) : Statement (.stsIdx off) := ⟨rfl, rfl⟩
theorem subaExt (a : Word) : Statement (.subaExt a) := ⟨rfl, rfl⟩
theorem cmpaExt (a : Word) : Statement (.cmpaExt a) := ⟨rfl, rfl⟩
theorem sbcaExt (a : Word) : Statement (.sbcaExt a) := ⟨rfl, rfl⟩
theorem subdExt (a : Word) : Statement (.subdExt a) := ⟨rfl, rfl⟩
theorem andaExt (a : Word) : Statement (.andaExt a) := ⟨rfl, rfl⟩
theorem bitaExt (a : Word) : Statement (.bitaExt a) := ⟨rfl, rfl⟩
theorem ldaaExt (a : Word) : Statement (.ldaaExt a) := ⟨rfl, rfl⟩
theorem staaExt (a : Word) : Statement (.staaExt a) := ⟨rfl, rfl⟩
theorem eoraExt (a : Word) : Statement (.eoraExt a) := ⟨rfl, rfl⟩
theorem adcaExt (a : Word) : Statement (.adcaExt a) := ⟨rfl, rfl⟩
theorem oraaExt (a : Word) : Statement (.oraaExt a) := ⟨rfl, rfl⟩
theorem addaExt (a : Word) : Statement (.addaExt a) := ⟨rfl, rfl⟩
theorem cpxExt (a : Word) : Statement (.cpxExt a) := ⟨rfl, rfl⟩
theorem jsrExt (a : Word) : Statement (.jsrExt a) := ⟨rfl, rfl⟩
theorem ldsExt (a : Word) : Statement (.ldsExt a) := ⟨rfl, rfl⟩
theorem stsExt (a : Word) : Statement (.stsExt a) := ⟨rfl, rfl⟩
theorem subbImm (m : Byte) : Statement (.subbImm m) := ⟨rfl, rfl⟩
theorem cmpbImm (m : Byte) : Statement (.cmpbImm m) := ⟨rfl, rfl⟩
theorem sbcbImm (m : Byte) : Statement (.sbcbImm m) := ⟨rfl, rfl⟩
theorem adddImm (m : Word) : Statement (.adddImm m) := ⟨rfl, rfl⟩
theorem andbImm (m : Byte) : Statement (.andbImm m) := ⟨rfl, rfl⟩
theorem bitbImm (m : Byte) : Statement (.bitbImm m) := ⟨rfl, rfl⟩
theorem ldabImm (m : Byte) : Statement (.ldabImm m) := ⟨rfl, rfl⟩
theorem eorbImm (m : Byte) : Statement (.eorbImm m) := ⟨rfl, rfl⟩
theorem adcbImm (m : Byte) : Statement (.adcbImm m) := ⟨rfl, rfl⟩
theorem orabImm (m : Byte) : Statement (.orabImm m) := ⟨rfl, rfl⟩
theorem addbImm (m : Byte) : Statement (.addbImm m) := ⟨rfl, rfl⟩
theorem lddImm (m : Word) : Statement (.lddImm m) := ⟨rfl, rfl⟩
theorem ldxImm (m : Word) : Statement (.ldxImm m) := ⟨rfl, rfl⟩
theorem subbDir (a : Byte) : Statement (.subbDir a) := ⟨rfl, rfl⟩
theorem cmpbDir (a : Byte) : Statement (.cmpbDir a) := ⟨rfl, rfl⟩
theorem sbcbDir (a : Byte) : Statement (.sbcbDir a) := ⟨rfl, rfl⟩
theorem adddDir (a : Byte) : Statement (.adddDir a) := ⟨rfl, rfl⟩
theorem andbDir (a : Byte) : Statement (.andbDir a) := ⟨rfl, rfl⟩
theorem bitbDir (a : Byte) : Statement (.bitbDir a) := ⟨rfl, rfl⟩
theorem ldabDir (a : Byte) : Statement (.ldabDir a) := ⟨rfl, rfl⟩
theorem stabDir (a : Byte) : Statement (.stabDir a) := ⟨rfl, rfl⟩
theorem eorbDir (a : Byte) : Statement (.eorbDir a) := ⟨rfl, rfl⟩
theorem adcbDir (a : Byte) : Statement (.adcbDir a) := ⟨rfl, rfl⟩
theorem orabDir (a : Byte) : Statement (.orabDir a) := ⟨rfl, rfl⟩
theorem addbDir (a : Byte) : Statement (.addbDir a) := ⟨rfl, rfl⟩
theorem lddDir (a : Byte) : Statement (.lddDir a) := ⟨rfl, rfl⟩
theorem stdDir (a : Byte) : Statement (.stdDir a) := ⟨rfl, rfl⟩
theorem ldxDir (a : Byte) : Statement (.ldxDir a) := ⟨rfl, rfl⟩
theorem stxDir (a : Byte) : Statement (.stxDir a) := ⟨rfl, rfl⟩
theorem subbIdx (off : Byte) : Statement (.subbIdx off) := ⟨rfl, rfl⟩
theorem cmpbIdx (off : Byte) : Statement (.cmpbIdx off) := ⟨rfl, rfl⟩
theorem sbcbIdx (off : Byte) : Statement (.sbcbIdx off) := ⟨rfl, rfl⟩
theorem adddIdx (off : Byte) : Statement (.adddIdx off) := ⟨rfl, rfl⟩
theorem andbIdx (off : Byte) : Statement (.andbIdx off) := ⟨rfl, rfl⟩
theorem bitbIdx (off : Byte) : Statement (.bitbIdx off) := ⟨rfl, rfl⟩
theorem ldabIdx (off : Byte) : Statement (.ldabIdx off) := ⟨rfl, rfl⟩
theorem stabIdx (off : Byte) : Statement (.stabIdx off) := ⟨rfl, rfl⟩
theorem eorbIdx (off : Byte) : Statement (.eorbIdx off) := ⟨rfl, rfl⟩
theorem adcbIdx (off : Byte) : Statement (.adcbIdx off) := ⟨rfl, rfl⟩
theorem orabIdx (off : Byte) : Statement (.orabIdx off) := ⟨rfl, rfl⟩
theorem addbIdx (off : Byte) : Statement (.addbIdx off) := ⟨rfl, rfl⟩
theorem lddIdx (off : Byte) : Statement (.lddIdx off) := ⟨rfl, rfl⟩
theorem stdIdx (off : Byte) : Statement (.stdIdx off) := ⟨rfl, rfl⟩
theorem ldxIdx (off : Byte) : Statement (.ldxIdx off) := ⟨rfl, rfl⟩
theorem stxIdx (off : Byte) : Statement (.stxIdx off) := ⟨rfl, rfl⟩
theorem subbExt (a : Word) : Statement (.subbExt a) := ⟨rfl, rfl⟩
theorem cmpbExt (a : Word) : Statement (.cmpbExt a) := ⟨rfl, rfl⟩
theorem sbcbExt (a : Word) : Statement (.sbcbExt a) := ⟨rfl, rfl⟩
theorem adddExt (a : Word) : Statement (.adddExt a) := ⟨rfl, rfl⟩
theorem andbExt (a : Word) : Statement (.andbExt a) := ⟨rfl, rfl⟩
theorem bitbExt (a : Word) : Statement (.bitbExt a) := ⟨rfl, rfl⟩
theorem ldabExt (a : Word) : Statement (.ldabExt a) := ⟨rfl, rfl⟩
theorem stabExt (a : Word) : Statement (.stabExt a) := ⟨rfl, rfl⟩
theorem eorbExt (a : Word) : Statement (.eorbExt a) := ⟨rfl, rfl⟩
theorem adcbExt (a : Word) : Statement (.adcbExt a) := ⟨rfl, rfl⟩
theorem orabExt (a : Word) : Statement (.orabExt a) := ⟨rfl, rfl⟩
theorem addbExt (a : Word) : Statement (.addbExt a) := ⟨rfl, rfl⟩
theorem lddExt (a : Word) : Statement (.lddExt a) := ⟨rfl, rfl⟩
theorem stdExt (a : Word) : Statement (.stdExt a) := ⟨rfl, rfl⟩
theorem ldxExt (a : Word) : Statement (.ldxExt a) := ⟨rfl, rfl⟩
theorem stxExt (a : Word) : Statement (.stxExt a) := ⟨rfl, rfl⟩

end Sys2Proof.Laws.EncodesToItsFormat
end

