-- ==== Sys2Proof/Tests/Slice0.lean ====
section
/-! SUPPORT. Tests of one step or one decoding each, and a witness for the hypotheses of every statement. Expected results
are the worked vectors of spec/95_test_vectors.md and the map of R124. -/

namespace Sys2Proof.Tests

open Sys2Proof.Machine

/-! ### Well-formedness: a byte string each check refuses, and one it lets pass -/

theorem test_wellFormed_refuses_empty : wellFormedBytes [] = false := by decide
theorem test_wellFormed_refuses_unassigned : wellFormedBytes [0x87#8, 0x00#8] = false := by decide
theorem test_wellFormed_refuses_short : wellFormedBytes [0xB6#8, 0x23#8] = false := by decide
theorem test_wellFormed_refuses_long : wellFormedBytes [0x01#8, 0x01#8] = false := by decide
theorem test_wellFormed_accepts : wellFormedBytes [0xB6#8, 0x23#8, 0x45#8] = true := by decide
theorem test_decode_refuses_truncated : decode [0xB6#8, 0x23#8] = .error (.truncated 0xB6) := by rfl
theorem test_decode_refuses_nothing : decode [] = .error .noBytes := by rfl

/-! ### Decoding: a word for every row of the map (R124), by column; operand bytes $12 and, in three-byte rows, $34 -/

/-- Each word decodes to its instruction and leaves nothing. -/
def decodesTo (l : List (List Byte × Instr)) : Bool :=
  l.all fun p => match decode p.1 with
    | .ok (i, []) => i == p.2
    | _ => false

theorem test_decode_0_column : decodesTo
   [([0x01#8], .nop), ([0x04#8], .lsrd), ([0x05#8], .asld), ([0x06#8], .tap), ([0x07#8], .tpa), ([0x08#8], .inx),
    ([0x09#8], .dex), ([0x0A#8], .clv), ([0x0B#8], .sev), ([0x0C#8], .clc), ([0x0D#8], .sec), ([0x0E#8], .cli),
    ([0x0F#8], .sei)] = true := by decide

theorem test_decode_1_column : decodesTo
   [([0x10#8], .sba), ([0x11#8], .cba), ([0x16#8], .tab), ([0x17#8], .tba), ([0x19#8], .daa), ([0x1B#8], .aba)] = true := by decide

theorem test_decode_2_column : decodesTo
   [([0x20#8, 0x12#8], .bra 0x12), ([0x21#8, 0x12#8], .brn 0x12), ([0x22#8, 0x12#8], .bhi 0x12),
    ([0x23#8, 0x12#8], .bls 0x12), ([0x24#8, 0x12#8], .bcc 0x12), ([0x25#8, 0x12#8], .bcs 0x12),
    ([0x26#8, 0x12#8], .bne 0x12), ([0x27#8, 0x12#8], .beq 0x12), ([0x28#8, 0x12#8], .bvc 0x12),
    ([0x29#8, 0x12#8], .bvs 0x12), ([0x2A#8, 0x12#8], .bpl 0x12), ([0x2B#8, 0x12#8], .bmi 0x12),
    ([0x2C#8, 0x12#8], .bge 0x12), ([0x2D#8, 0x12#8], .blt 0x12), ([0x2E#8, 0x12#8], .bgt 0x12),
    ([0x2F#8, 0x12#8], .ble 0x12)] = true := by decide

theorem test_decode_3_column : decodesTo
   [([0x30#8], .tsx), ([0x31#8], .ins), ([0x32#8], .pula), ([0x33#8], .pulb), ([0x34#8], .des), ([0x35#8], .txs),
    ([0x36#8], .psha), ([0x37#8], .pshb), ([0x38#8], .pulx), ([0x39#8], .rts), ([0x3A#8], .abx), ([0x3B#8], .rti),
    ([0x3C#8], .pshx), ([0x3D#8], .mul), ([0x3E#8], .wai), ([0x3F#8], .swi)] = true := by decide

theorem test_decode_4_column : decodesTo
   [([0x40#8], .nega), ([0x43#8], .coma), ([0x44#8], .lsra), ([0x46#8], .rora), ([0x47#8], .asra),
    ([0x48#8], .asla), ([0x49#8], .rola), ([0x4A#8], .deca), ([0x4C#8], .inca), ([0x4D#8], .tsta),
    ([0x4E#8], .test4E), ([0x4F#8], .clra)] = true := by decide

theorem test_decode_5_column : decodesTo
   [([0x50#8], .negb), ([0x53#8], .comb), ([0x54#8], .lsrb), ([0x56#8], .rorb), ([0x57#8], .asrb),
    ([0x58#8], .aslb), ([0x59#8], .rolb), ([0x5A#8], .decb), ([0x5C#8], .incb), ([0x5D#8], .tstb),
    ([0x5E#8], .test5E), ([0x5F#8], .clrb)] = true := by decide

theorem test_decode_6_column : decodesTo
   [([0x60#8, 0x12#8], .negIdx 0x12), ([0x63#8, 0x12#8], .comIdx 0x12), ([0x64#8, 0x12#8], .lsrIdx 0x12),
    ([0x66#8, 0x12#8], .rorIdx 0x12), ([0x67#8, 0x12#8], .asrIdx 0x12), ([0x68#8, 0x12#8], .aslIdx 0x12),
    ([0x69#8, 0x12#8], .rolIdx 0x12), ([0x6A#8, 0x12#8], .decIdx 0x12), ([0x6C#8, 0x12#8], .incIdx 0x12),
    ([0x6D#8, 0x12#8], .tstIdx 0x12), ([0x6E#8, 0x12#8], .jmpIdx 0x12), ([0x6F#8, 0x12#8], .clrIdx 0x12)] = true := by decide

theorem test_decode_7_column : decodesTo
   [([0x70#8, 0x12#8, 0x34#8], .negExt 0x1234), ([0x73#8, 0x12#8, 0x34#8], .comExt 0x1234),
    ([0x74#8, 0x12#8, 0x34#8], .lsrExt 0x1234), ([0x76#8, 0x12#8, 0x34#8], .rorExt 0x1234),
    ([0x77#8, 0x12#8, 0x34#8], .asrExt 0x1234), ([0x78#8, 0x12#8, 0x34#8], .aslExt 0x1234),
    ([0x79#8, 0x12#8, 0x34#8], .rolExt 0x1234), ([0x7A#8, 0x12#8, 0x34#8], .decExt 0x1234),
    ([0x7C#8, 0x12#8, 0x34#8], .incExt 0x1234), ([0x7D#8, 0x12#8, 0x34#8], .tstExt 0x1234),
    ([0x7E#8, 0x12#8, 0x34#8], .jmpExt 0x1234), ([0x7F#8, 0x12#8, 0x34#8], .clrExt 0x1234)] = true := by decide

theorem test_decode_8_column : decodesTo
   [([0x80#8, 0x12#8], .subaImm 0x12), ([0x81#8, 0x12#8], .cmpaImm 0x12), ([0x82#8, 0x12#8], .sbcaImm 0x12),
    ([0x83#8, 0x12#8, 0x34#8], .subdImm 0x1234), ([0x84#8, 0x12#8], .andaImm 0x12),
    ([0x85#8, 0x12#8], .bitaImm 0x12), ([0x86#8, 0x12#8], .ldaaImm 0x12), ([0x88#8, 0x12#8], .eoraImm 0x12),
    ([0x89#8, 0x12#8], .adcaImm 0x12), ([0x8A#8, 0x12#8], .oraaImm 0x12), ([0x8B#8, 0x12#8], .addaImm 0x12),
    ([0x8C#8, 0x12#8, 0x34#8], .cpxImm 0x1234), ([0x8D#8, 0x12#8], .bsr 0x12),
    ([0x8E#8, 0x12#8, 0x34#8], .ldsImm 0x1234)] = true := by decide

theorem test_decode_9_column : decodesTo
   [([0x90#8, 0x12#8], .subaDir 0x12), ([0x91#8, 0x12#8], .cmpaDir 0x12), ([0x92#8, 0x12#8], .sbcaDir 0x12),
    ([0x93#8, 0x12#8], .subdDir 0x12), ([0x94#8, 0x12#8], .andaDir 0x12), ([0x95#8, 0x12#8], .bitaDir 0x12),
    ([0x96#8, 0x12#8], .ldaaDir 0x12), ([0x97#8, 0x12#8], .staaDir 0x12), ([0x98#8, 0x12#8], .eoraDir 0x12),
    ([0x99#8, 0x12#8], .adcaDir 0x12), ([0x9A#8, 0x12#8], .oraaDir 0x12), ([0x9B#8, 0x12#8], .addaDir 0x12),
    ([0x9C#8, 0x12#8], .cpxDir 0x12), ([0x9D#8, 0x12#8], .jsrDir 0x12), ([0x9E#8, 0x12#8], .ldsDir 0x12),
    ([0x9F#8, 0x12#8], .stsDir 0x12)] = true := by decide

theorem test_decode_A_column : decodesTo
   [([0xA0#8, 0x12#8], .subaIdx 0x12), ([0xA1#8, 0x12#8], .cmpaIdx 0x12), ([0xA2#8, 0x12#8], .sbcaIdx 0x12),
    ([0xA3#8, 0x12#8], .subdIdx 0x12), ([0xA4#8, 0x12#8], .andaIdx 0x12), ([0xA5#8, 0x12#8], .bitaIdx 0x12),
    ([0xA6#8, 0x12#8], .ldaaIdx 0x12), ([0xA7#8, 0x12#8], .staaIdx 0x12), ([0xA8#8, 0x12#8], .eoraIdx 0x12),
    ([0xA9#8, 0x12#8], .adcaIdx 0x12), ([0xAA#8, 0x12#8], .oraaIdx 0x12), ([0xAB#8, 0x12#8], .addaIdx 0x12),
    ([0xAC#8, 0x12#8], .cpxIdx 0x12), ([0xAD#8, 0x12#8], .jsrIdx 0x12), ([0xAE#8, 0x12#8], .ldsIdx 0x12),
    ([0xAF#8, 0x12#8], .stsIdx 0x12)] = true := by decide

theorem test_decode_B_column : decodesTo
   [([0xB0#8, 0x12#8, 0x34#8], .subaExt 0x1234), ([0xB1#8, 0x12#8, 0x34#8], .cmpaExt 0x1234),
    ([0xB2#8, 0x12#8, 0x34#8], .sbcaExt 0x1234), ([0xB3#8, 0x12#8, 0x34#8], .subdExt 0x1234),
    ([0xB4#8, 0x12#8, 0x34#8], .andaExt 0x1234), ([0xB5#8, 0x12#8, 0x34#8], .bitaExt 0x1234),
    ([0xB6#8, 0x12#8, 0x34#8], .ldaaExt 0x1234), ([0xB7#8, 0x12#8, 0x34#8], .staaExt 0x1234),
    ([0xB8#8, 0x12#8, 0x34#8], .eoraExt 0x1234), ([0xB9#8, 0x12#8, 0x34#8], .adcaExt 0x1234),
    ([0xBA#8, 0x12#8, 0x34#8], .oraaExt 0x1234), ([0xBB#8, 0x12#8, 0x34#8], .addaExt 0x1234),
    ([0xBC#8, 0x12#8, 0x34#8], .cpxExt 0x1234), ([0xBD#8, 0x12#8, 0x34#8], .jsrExt 0x1234),
    ([0xBE#8, 0x12#8, 0x34#8], .ldsExt 0x1234), ([0xBF#8, 0x12#8, 0x34#8], .stsExt 0x1234)] = true := by decide

theorem test_decode_C_column : decodesTo
   [([0xC0#8, 0x12#8], .subbImm 0x12), ([0xC1#8, 0x12#8], .cmpbImm 0x12), ([0xC2#8, 0x12#8], .sbcbImm 0x12),
    ([0xC3#8, 0x12#8, 0x34#8], .adddImm 0x1234), ([0xC4#8, 0x12#8], .andbImm 0x12),
    ([0xC5#8, 0x12#8], .bitbImm 0x12), ([0xC6#8, 0x12#8], .ldabImm 0x12), ([0xC8#8, 0x12#8], .eorbImm 0x12),
    ([0xC9#8, 0x12#8], .adcbImm 0x12), ([0xCA#8, 0x12#8], .orabImm 0x12), ([0xCB#8, 0x12#8], .addbImm 0x12),
    ([0xCC#8, 0x12#8, 0x34#8], .lddImm 0x1234), ([0xCE#8, 0x12#8, 0x34#8], .ldxImm 0x1234)] = true := by decide

theorem test_decode_D_column : decodesTo
   [([0xD0#8, 0x12#8], .subbDir 0x12), ([0xD1#8, 0x12#8], .cmpbDir 0x12), ([0xD2#8, 0x12#8], .sbcbDir 0x12),
    ([0xD3#8, 0x12#8], .adddDir 0x12), ([0xD4#8, 0x12#8], .andbDir 0x12), ([0xD5#8, 0x12#8], .bitbDir 0x12),
    ([0xD6#8, 0x12#8], .ldabDir 0x12), ([0xD7#8, 0x12#8], .stabDir 0x12), ([0xD8#8, 0x12#8], .eorbDir 0x12),
    ([0xD9#8, 0x12#8], .adcbDir 0x12), ([0xDA#8, 0x12#8], .orabDir 0x12), ([0xDB#8, 0x12#8], .addbDir 0x12),
    ([0xDC#8, 0x12#8], .lddDir 0x12), ([0xDD#8, 0x12#8], .stdDir 0x12), ([0xDE#8, 0x12#8], .ldxDir 0x12),
    ([0xDF#8, 0x12#8], .stxDir 0x12)] = true := by decide

theorem test_decode_E_column : decodesTo
   [([0xE0#8, 0x12#8], .subbIdx 0x12), ([0xE1#8, 0x12#8], .cmpbIdx 0x12), ([0xE2#8, 0x12#8], .sbcbIdx 0x12),
    ([0xE3#8, 0x12#8], .adddIdx 0x12), ([0xE4#8, 0x12#8], .andbIdx 0x12), ([0xE5#8, 0x12#8], .bitbIdx 0x12),
    ([0xE6#8, 0x12#8], .ldabIdx 0x12), ([0xE7#8, 0x12#8], .stabIdx 0x12), ([0xE8#8, 0x12#8], .eorbIdx 0x12),
    ([0xE9#8, 0x12#8], .adcbIdx 0x12), ([0xEA#8, 0x12#8], .orabIdx 0x12), ([0xEB#8, 0x12#8], .addbIdx 0x12),
    ([0xEC#8, 0x12#8], .lddIdx 0x12), ([0xED#8, 0x12#8], .stdIdx 0x12), ([0xEE#8, 0x12#8], .ldxIdx 0x12),
    ([0xEF#8, 0x12#8], .stxIdx 0x12)] = true := by decide

theorem test_decode_F_column : decodesTo
   [([0xF0#8, 0x12#8, 0x34#8], .subbExt 0x1234), ([0xF1#8, 0x12#8, 0x34#8], .cmpbExt 0x1234),
    ([0xF2#8, 0x12#8, 0x34#8], .sbcbExt 0x1234), ([0xF3#8, 0x12#8, 0x34#8], .adddExt 0x1234),
    ([0xF4#8, 0x12#8, 0x34#8], .andbExt 0x1234), ([0xF5#8, 0x12#8, 0x34#8], .bitbExt 0x1234),
    ([0xF6#8, 0x12#8, 0x34#8], .ldabExt 0x1234), ([0xF7#8, 0x12#8, 0x34#8], .stabExt 0x1234),
    ([0xF8#8, 0x12#8, 0x34#8], .eorbExt 0x1234), ([0xF9#8, 0x12#8, 0x34#8], .adcbExt 0x1234),
    ([0xFA#8, 0x12#8, 0x34#8], .orabExt 0x1234), ([0xFB#8, 0x12#8, 0x34#8], .addbExt 0x1234),
    ([0xFC#8, 0x12#8, 0x34#8], .lddExt 0x1234), ([0xFD#8, 0x12#8, 0x34#8], .stdExt 0x1234),
    ([0xFE#8, 0x12#8, 0x34#8], .ldxExt 0x1234), ([0xFF#8, 0x12#8, 0x34#8], .stxExt 0x1234)] = true := by decide

/-! ### One step each: the vectors of 95_test_vectors.md 2.1 to 2.6, instructions at $1000, all memory external -/

/-- A state before an instruction; the flags in the order H I N Z V C. -/
def before (a b : Byte) (x sp pc : Word) (h i n z v c : Bool) (m : List (Nat × Byte)) : State :=
  { State.reset with
    cpu := { a := a, b := b, x := x, sp := sp, pc := pc, ccr := { h := h, i := i, n := n, z := z, v := v, c := c } }
    ext := m.foldl (fun e p => Memory.set e p.1 p.2) []
    ramcr := { stbyPwr := false, rame := false } }

/-- What holds of the state after one step. -/
def after (s : State) (p : State → Bool) : Bool :=
  match step s with
  | .next t => p t
  | .fault _ => false
  | .refused _ => false

theorem test_ldaa :
    after (before 0x00 0x00 0x0000 0x0000 0x1000 false false false false false false
      [(0x1000, 0x86), (0x1001, 0x80)]) (fun t =>
      t.cpu.a == 0x80 && t.cpu.pc == 0x1002 && t.cpu.ccr.n == true && t.cpu.ccr.z == false &&
      t.cpu.ccr.v == false && t.cpu.ccr.c == false) = true := by decide

theorem test_ldd :
    after (before 0x00 0x00 0x0000 0x0000 0x1000 false false false false false false
      [(0x1000, 0xCC), (0x1001, 0x12), (0x1002, 0x34)]) (fun t =>
      t.cpu.a == 0x12 && t.cpu.b == 0x34 && t.cpu.pc == 0x1003) = true := by decide

theorem test_std :
    after (before 0xAB 0xCD 0x0000 0x0000 0x1000 false false false false false false
      [(0x1000, 0xDD), (0x1001, 0x90)]) (fun t =>
      t.ext.get 0x0090 == 0xAB && t.ext.get 0x0091 == 0xCD && t.cpu.pc == 0x1002) = true := by decide

theorem test_bra :
    after (before 0x00 0x00 0x0000 0x0000 0x1000 false false false false false false
      [(0x1000, 0x20), (0x1001, 0xFE)]) (fun t =>
      t.cpu.pc == 0x1000) = true := by decide

theorem test_cpx :
    after (before 0x00 0x00 0x1234 0x0000 0x1000 false false true false true true
      [(0x1000, 0x8C), (0x1001, 0x12), (0x1002, 0x34)]) (fun t =>
      t.cpu.x == 0x1234 && t.cpu.ccr.n == false && t.cpu.ccr.z == true && t.cpu.ccr.v == false &&
      t.cpu.ccr.c == false && t.cpu.pc == 0x1003) = true := by decide

theorem test_dex :
    after (before 0x00 0x00 0x0001 0x0000 0x1000 true false true false true true
      [(0x1000, 0x09)]) (fun t =>
      t.cpu.x == 0x00 && t.cpu.ccr.h == true && t.cpu.ccr.i == false && t.cpu.ccr.n == true &&
      t.cpu.ccr.z == true && t.cpu.ccr.v == true && t.cpu.ccr.c == true && t.cpu.pc == 0x1001) = true := by decide

theorem test_inx :
    after (before 0x00 0x00 0xFFFF 0x0000 0x1000 false false false false false false
      [(0x1000, 0x08)]) (fun t =>
      t.cpu.x == 0x00 && t.cpu.ccr.z == true && t.cpu.pc == 0x1001) = true := by decide

theorem test_des :
    after (before 0x00 0x00 0x0000 0x0000 0x1000 false false false true false true
      [(0x1000, 0x34)]) (fun t =>
      t.cpu.sp == 0xFFFF && t.cpu.ccr.h == false && t.cpu.ccr.i == false && t.cpu.ccr.n == false &&
      t.cpu.ccr.z == true && t.cpu.ccr.v == false && t.cpu.ccr.c == true && t.cpu.pc == 0x1001) = true := by decide

theorem test_ins :
    after (before 0x00 0x00 0x0000 0xFFFF 0x1000 false false true false false false
      [(0x1000, 0x31)]) (fun t =>
      t.cpu.sp == 0x00 && t.cpu.ccr.h == false && t.cpu.ccr.i == false && t.cpu.ccr.n == true &&
      t.cpu.ccr.z == false && t.cpu.ccr.v == false && t.cpu.ccr.c == false && t.cpu.pc == 0x1001) = true := by decide

theorem test_ldx :
    after (before 0x00 0x00 0x1111 0x0000 0x1000 false false true false true true
      [(0x1000, 0xCE), (0x1001, 0x00), (0x1002, 0x00)]) (fun t =>
      t.cpu.x == 0x00 && t.cpu.ccr.n == false && t.cpu.ccr.z == true && t.cpu.ccr.v == false &&
      t.cpu.ccr.c == true && t.cpu.pc == 0x1003) = true := by decide

theorem test_lds :
    after (before 0x00 0x00 0x0000 0x0000 0x1000 false false false false true false
      [(0x1000, 0x8E), (0x1001, 0x00), (0x1002, 0xFF)]) (fun t =>
      t.cpu.sp == 0xFF && t.cpu.ccr.n == false && t.cpu.ccr.z == false && t.cpu.ccr.v == false &&
      t.cpu.ccr.c == false && t.cpu.pc == 0x1003) = true := by decide

theorem test_stx :
    after (before 0x00 0x00 0x0000 0x0000 0x1000 false false true false true true
      [(0x1000, 0xFF), (0x1001, 0x20), (0x1002, 0x00)]) (fun t =>
      t.cpu.ccr.n == false && t.cpu.ccr.z == true && t.cpu.ccr.v == false && t.cpu.ccr.c == true &&
      t.ext.get 0x2000 == 0x00 && t.ext.get 0x2001 == 0x00 && t.cpu.pc == 0x1003) = true := by decide

theorem test_sts :
    after (before 0x00 0x00 0x0000 0x80FF 0x1000 false false false false true false
      [(0x1000, 0x9F), (0x1001, 0x90)]) (fun t =>
      t.cpu.ccr.n == true && t.cpu.ccr.z == false && t.cpu.ccr.v == false && t.cpu.ccr.c == false &&
      t.ext.get 0x0090 == 0x80 && t.ext.get 0x0091 == 0xFF && t.cpu.pc == 0x1002) = true := by decide

theorem test_txs :
    after (before 0x00 0x00 0x0100 0x5555 0x1000 false false false true false false
      [(0x1000, 0x35)]) (fun t =>
      t.cpu.sp == 0xFF && t.cpu.x == 0x100 && t.cpu.ccr.h == false && t.cpu.ccr.i == false &&
      t.cpu.ccr.n == false && t.cpu.ccr.z == true && t.cpu.ccr.v == false && t.cpu.ccr.c == false &&
      t.cpu.pc == 0x1001) = true := by decide

theorem test_tsx :
    after (before 0x00 0x00 0x0000 0x00FF 0x1000 false false true false false false
      [(0x1000, 0x30)]) (fun t =>
      t.cpu.x == 0x100 && t.cpu.sp == 0xFF && t.cpu.ccr.h == false && t.cpu.ccr.i == false &&
      t.cpu.ccr.n == true && t.cpu.ccr.z == false && t.cpu.ccr.v == false && t.cpu.ccr.c == false &&
      t.cpu.pc == 0x1001) = true := by decide

theorem test_abx :
    after (before 0x00 0xFF 0x10F0 0x0000 0x1000 false false false true false false
      [(0x1000, 0x3A)]) (fun t =>
      t.cpu.x == 0x11EF && t.cpu.b == 0xFF && t.cpu.ccr.h == false && t.cpu.ccr.i == false &&
      t.cpu.ccr.n == false && t.cpu.ccr.z == true && t.cpu.ccr.v == false && t.cpu.ccr.c == false &&
      t.cpu.pc == 0x1001) = true := by decide

theorem test_pshx :
    after (before 0x00 0x00 0x1234 0x00FF 0x1000 false false false true false false
      [(0x1000, 0x3C)]) (fun t =>
      t.cpu.sp == 0xFD && t.cpu.ccr.h == false && t.cpu.ccr.i == false && t.cpu.ccr.n == false &&
      t.cpu.ccr.z == true && t.cpu.ccr.v == false && t.cpu.ccr.c == false && t.ext.get 0x00FF == 0x34 &&
      t.ext.get 0x00FE == 0x12 && t.cpu.pc == 0x1001) = true := by decide

theorem test_pulx :
    after (before 0x00 0x00 0x0000 0x00FD 0x1000 false false true false false false
      [(0x00FE, 0x12), (0x00FF, 0x34), (0x1000, 0x38)]) (fun t =>
      t.cpu.x == 0x1234 && t.cpu.sp == 0xFF && t.cpu.ccr.h == false && t.cpu.ccr.i == false &&
      t.cpu.ccr.n == true && t.cpu.ccr.z == false && t.cpu.ccr.v == false && t.cpu.ccr.c == false &&
      t.cpu.pc == 0x1001) = true := by decide

theorem test_adda :
    after (before 0x7F 0x00 0x0000 0x0000 0x1000 false false false false false false
      [(0x1000, 0x8B), (0x1001, 0x01)]) (fun t =>
      t.cpu.a == 0x80 && t.cpu.ccr.h == true && t.cpu.ccr.n == true && t.cpu.ccr.z == false &&
      t.cpu.ccr.v == true && t.cpu.ccr.c == false && t.cpu.pc == 0x1002) = true := by decide

theorem test_addb :
    after (before 0x55 0x0F 0x0000 0x0000 0x1000 false false false false false false
      [(0x0090, 0x01), (0x1000, 0xDB), (0x1001, 0x90)]) (fun t =>
      t.cpu.b == 0x10 && t.cpu.a == 0x55 && t.cpu.ccr.h == true && t.cpu.ccr.n == false && t.cpu.ccr.z == false &&
      t.cpu.ccr.v == false && t.cpu.ccr.c == false && t.cpu.pc == 0x1002) = true := by decide

theorem test_adca :
    after (before 0xFF 0x00 0x0000 0x0000 0x1000 false false false false false true
      [(0x1000, 0x89), (0x1001, 0x00)]) (fun t =>
      t.cpu.a == 0x00 && t.cpu.ccr.h == true && t.cpu.ccr.n == false && t.cpu.ccr.z == true &&
      t.cpu.ccr.v == false && t.cpu.ccr.c == true && t.cpu.pc == 0x1002) = true := by decide

theorem test_adcb :
    after (before 0x00 0x00 0x0000 0x0000 0x1000 false false false false false true
      [(0x1000, 0xC9), (0x1001, 0x7F)]) (fun t =>
      t.cpu.b == 0x80 && t.cpu.ccr.h == true && t.cpu.ccr.n == true && t.cpu.ccr.z == false &&
      t.cpu.ccr.v == true && t.cpu.ccr.c == false && t.cpu.pc == 0x1002) = true := by decide

theorem test_aba :
    after (before 0x40 0x40 0x0000 0x0000 0x1000 false false false false false false
      [(0x1000, 0x1B)]) (fun t =>
      t.cpu.a == 0x80 && t.cpu.b == 0x40 && t.cpu.ccr.h == false && t.cpu.ccr.n == true && t.cpu.ccr.z == false &&
      t.cpu.ccr.v == true && t.cpu.ccr.c == false && t.cpu.pc == 0x1001) = true := by decide

theorem test_suba :
    after (before 0x00 0x00 0x0000 0x0000 0x1000 true false false false false false
      [(0x1000, 0x80), (0x1001, 0x01)]) (fun t =>
      t.cpu.a == 0xFF && t.cpu.ccr.h == true && t.cpu.ccr.n == true && t.cpu.ccr.z == false &&
      t.cpu.ccr.v == false && t.cpu.ccr.c == true && t.cpu.pc == 0x1002) = true := by decide

theorem test_subb :
    after (before 0x00 0x42 0x2000 0x0000 0x1000 false false false false false false
      [(0x1000, 0xE0), (0x1001, 0x01), (0x2001, 0x42)]) (fun t =>
      t.cpu.b == 0x00 && t.cpu.ccr.h == false && t.cpu.ccr.n == false && t.cpu.ccr.z == true &&
      t.cpu.ccr.v == false && t.cpu.ccr.c == false && t.cpu.pc == 0x1002) = true := by decide

theorem test_sbca :
    after (before 0x00 0x00 0x0000 0x0000 0x1000 false false false false false true
      [(0x1000, 0x82), (0x1001, 0x00)]) (fun t =>
      t.cpu.a == 0xFF && t.cpu.ccr.h == false && t.cpu.ccr.n == true && t.cpu.ccr.z == false &&
      t.cpu.ccr.v == false && t.cpu.ccr.c == true && t.cpu.pc == 0x1002) = true := by decide

theorem test_sbcb :
    after (before 0x00 0x80 0x0000 0x0000 0x1000 false false false false false true
      [(0x1000, 0xC2), (0x1001, 0x7F)]) (fun t =>
      t.cpu.b == 0x00 && t.cpu.ccr.h == false && t.cpu.ccr.n == false && t.cpu.ccr.z == true &&
      t.cpu.ccr.v == true && t.cpu.ccr.c == false && t.cpu.pc == 0x1002) = true := by decide

theorem test_sba :
    after (before 0x10 0x20 0x0000 0x0000 0x1000 false false false false false false
      [(0x1000, 0x10)]) (fun t =>
      t.cpu.a == 0xF0 && t.cpu.b == 0x20 && t.cpu.ccr.h == false && t.cpu.ccr.n == true && t.cpu.ccr.z == false &&
      t.cpu.ccr.v == false && t.cpu.ccr.c == true && t.cpu.pc == 0x1001) = true := by decide

theorem test_cba :
    after (before 0x10 0x20 0x0000 0x0000 0x1000 false false false false false false
      [(0x1000, 0x11)]) (fun t =>
      t.cpu.a == 0x10 && t.cpu.b == 0x20 && t.cpu.ccr.h == false && t.cpu.ccr.n == true && t.cpu.ccr.z == false &&
      t.cpu.ccr.v == false && t.cpu.ccr.c == true && t.cpu.pc == 0x1001) = true := by decide

theorem test_cmpa :
    after (before 0x00 0x00 0x0000 0x0000 0x1000 false false false false false false
      [(0x1000, 0x81), (0x1001, 0xFF)]) (fun t =>
      t.cpu.a == 0x00 && t.cpu.ccr.h == false && t.cpu.ccr.n == false && t.cpu.ccr.z == false &&
      t.cpu.ccr.v == false && t.cpu.ccr.c == true && t.cpu.pc == 0x1002) = true := by decide

theorem test_cmpb :
    after (before 0x00 0x7F 0x0000 0x0000 0x1000 false false false false false false
      [(0x1000, 0xF1), (0x1001, 0x20), (0x1002, 0x00), (0x2000, 0x80)]) (fun t =>
      t.cpu.b == 0x7F && t.cpu.ccr.h == false && t.cpu.ccr.n == true && t.cpu.ccr.z == false &&
      t.cpu.ccr.v == true && t.cpu.ccr.c == true && t.cpu.pc == 0x1003) = true := by decide

theorem test_addd :
    after (before 0x7F 0xFF 0x0000 0x0000 0x1000 true false false false false false
      [(0x1000, 0xC3), (0x1001, 0x00), (0x1002, 0x01)]) (fun t =>
      t.d == 0x8000 && t.cpu.ccr.h == true && t.cpu.ccr.n == true && t.cpu.ccr.z == false && t.cpu.ccr.v == true &&
      t.cpu.ccr.c == false && t.cpu.pc == 0x1003) = true := by decide

theorem test_subd :
    after (before 0x00 0x00 0x0000 0x0000 0x1000 false false false false false false
      [(0x1000, 0x83), (0x1001, 0x00), (0x1002, 0x01)]) (fun t =>
      t.d == 0xFFFF && t.cpu.ccr.h == false && t.cpu.ccr.n == true && t.cpu.ccr.z == false &&
      t.cpu.ccr.v == false && t.cpu.ccr.c == true && t.cpu.pc == 0x1003) = true := by decide

theorem test_nega :
    after (before 0x00 0x00 0x0000 0x0000 0x1000 false false false false false true
      [(0x1000, 0x40)]) (fun t =>
      t.cpu.a == 0x00 && t.cpu.ccr.h == false && t.cpu.ccr.n == false && t.cpu.ccr.z == true &&
      t.cpu.ccr.v == false && t.cpu.ccr.c == false && t.cpu.pc == 0x1001) = true := by decide

theorem test_negb :
    after (before 0x00 0x01 0x0000 0x0000 0x1000 false false false false false false
      [(0x1000, 0x50)]) (fun t =>
      t.cpu.b == 0xFF && t.cpu.ccr.h == false && t.cpu.ccr.n == true && t.cpu.ccr.z == false &&
      t.cpu.ccr.v == false && t.cpu.ccr.c == true && t.cpu.pc == 0x1001) = true := by decide

theorem test_neg :
    after (before 0x00 0x00 0x0000 0x0000 0x1000 false false false false false false
      [(0x1000, 0x70), (0x1001, 0x20), (0x1002, 0x00), (0x2000, 0x7F)]) (fun t =>
      t.cpu.ccr.h == false && t.cpu.ccr.n == true && t.cpu.ccr.z == false && t.cpu.ccr.v == false &&
      t.cpu.ccr.c == true && t.ext.get 0x2000 == 0x81 && t.cpu.pc == 0x1003) = true := by decide

theorem test_inca :
    after (before 0x7F 0x00 0x0000 0x0000 0x1000 false false false false false true
      [(0x1000, 0x4C)]) (fun t =>
      t.cpu.a == 0x80 && t.cpu.ccr.h == false && t.cpu.ccr.n == true && t.cpu.ccr.z == false &&
      t.cpu.ccr.v == true && t.cpu.ccr.c == true && t.cpu.pc == 0x1001) = true := by decide

theorem test_incb :
    after (before 0x00 0xFF 0x0000 0x0000 0x1000 false false false false false false
      [(0x1000, 0x5C)]) (fun t =>
      t.cpu.b == 0x00 && t.cpu.ccr.h == false && t.cpu.ccr.n == false && t.cpu.ccr.z == true &&
      t.cpu.ccr.v == false && t.cpu.ccr.c == false && t.cpu.pc == 0x1001) = true := by decide

theorem test_inc :
    after (before 0x00 0x00 0x2000 0x0000 0x1000 false false false false false true
      [(0x1000, 0x6C), (0x1001, 0x00), (0x2000, 0xFF)]) (fun t =>
      t.cpu.ccr.h == false && t.cpu.ccr.n == false && t.cpu.ccr.z == true && t.cpu.ccr.v == false &&
      t.cpu.ccr.c == true && t.ext.get 0x2000 == 0x00 && t.cpu.pc == 0x1002) = true := by decide

theorem test_deca :
    after (before 0x80 0x00 0x0000 0x0000 0x1000 false false false false false true
      [(0x1000, 0x4A)]) (fun t =>
      t.cpu.a == 0x7F && t.cpu.ccr.h == false && t.cpu.ccr.n == false && t.cpu.ccr.z == false &&
      t.cpu.ccr.v == true && t.cpu.ccr.c == true && t.cpu.pc == 0x1001) = true := by decide

theorem test_decb :
    after (before 0x00 0x00 0x0000 0x0000 0x1000 false false false false false false
      [(0x1000, 0x5A)]) (fun t =>
      t.cpu.b == 0xFF && t.cpu.ccr.h == false && t.cpu.ccr.n == true && t.cpu.ccr.z == false &&
      t.cpu.ccr.v == false && t.cpu.ccr.c == false && t.cpu.pc == 0x1001) = true := by decide

theorem test_dec :
    after (before 0x00 0x00 0x0000 0x0000 0x1000 false false false false false true
      [(0x1000, 0x7A), (0x1001, 0x20), (0x1002, 0x00), (0x2000, 0x01)]) (fun t =>
      t.cpu.ccr.h == false && t.cpu.ccr.n == false && t.cpu.ccr.z == true && t.cpu.ccr.v == false &&
      t.cpu.ccr.c == true && t.ext.get 0x2000 == 0x00 && t.cpu.pc == 0x1003) = true := by decide

theorem test_tsta :
    after (before 0x80 0x00 0x0000 0x0000 0x1000 false false false false true true
      [(0x1000, 0x4D)]) (fun t =>
      t.cpu.a == 0x80 && t.cpu.ccr.h == false && t.cpu.ccr.n == true && t.cpu.ccr.z == false &&
      t.cpu.ccr.v == false && t.cpu.ccr.c == false && t.cpu.pc == 0x1001) = true := by decide

theorem test_tstb :
    after (before 0x00 0x00 0x0000 0x0000 0x1000 false false false false true true
      [(0x1000, 0x5D)]) (fun t =>
      t.cpu.b == 0x00 && t.cpu.ccr.h == false && t.cpu.ccr.n == false && t.cpu.ccr.z == true &&
      t.cpu.ccr.v == false && t.cpu.ccr.c == false && t.cpu.pc == 0x1001) = true := by decide

theorem test_tst :
    after (before 0x00 0x00 0x0000 0x0000 0x1000 false false true false true true
      [(0x1000, 0x7D), (0x1001, 0x20), (0x1002, 0x00), (0x2000, 0x01)]) (fun t =>
      t.cpu.ccr.h == false && t.cpu.ccr.n == false && t.cpu.ccr.z == false && t.cpu.ccr.v == false &&
      t.cpu.ccr.c == false && t.cpu.pc == 0x1003) = true := by decide

theorem test_mul :
    after (before 0xFF 0xFF 0x0000 0x0000 0x1000 false false true true false false
      [(0x1000, 0x3D)]) (fun t =>
      t.d == 0xFE01 && t.cpu.ccr.h == false && t.cpu.ccr.i == false && t.cpu.ccr.n == true &&
      t.cpu.ccr.z == true && t.cpu.ccr.v == false && t.cpu.ccr.c == false && t.cpu.pc == 0x1001) = true := by decide

theorem test_daa :
    after (before 0x41 0x00 0x0000 0x0000 0x1000 true false false false false false
      [(0x1000, 0x19)]) (fun t =>
      t.cpu.a == 0x47 && t.cpu.ccr.h == true && t.cpu.ccr.n == false && t.cpu.ccr.z == false &&
      t.cpu.ccr.c == false && t.cpu.pc == 0x1001) = true := by decide

theorem test_anda :
    after (before 0xF0 0x00 0x0000 0x0000 0x1000 true false false false true true
      [(0x1000, 0x84), (0x1001, 0x0F)]) (fun t =>
      t.cpu.a == 0x00 && t.cpu.ccr.h == true && t.cpu.ccr.n == false && t.cpu.ccr.z == true &&
      t.cpu.ccr.v == false && t.cpu.ccr.c == true && t.cpu.pc == 0x1002) = true := by decide

theorem test_andb :
    after (before 0x00 0xFF 0x0000 0x0000 0x1000 false false false false true false
      [(0x1000, 0xC4), (0x1001, 0x80)]) (fun t =>
      t.cpu.b == 0x80 && t.cpu.ccr.h == false && t.cpu.ccr.n == true && t.cpu.ccr.z == false &&
      t.cpu.ccr.v == false && t.cpu.ccr.c == false && t.cpu.pc == 0x1002) = true := by decide

theorem test_bita :
    after (before 0xFE 0x00 0x0000 0x0000 0x1000 false false false false true true
      [(0x1000, 0x85), (0x1001, 0x01)]) (fun t =>
      t.cpu.a == 0xFE && t.cpu.ccr.h == false && t.cpu.ccr.n == false && t.cpu.ccr.z == true &&
      t.cpu.ccr.v == false && t.cpu.ccr.c == true && t.cpu.pc == 0x1002) = true := by decide

theorem test_oraa :
    after (before 0x01 0x00 0x0000 0x0000 0x1000 false false false false true false
      [(0x1000, 0x8A), (0x1001, 0x80)]) (fun t =>
      t.cpu.a == 0x81 && t.cpu.ccr.h == false && t.cpu.ccr.n == true && t.cpu.ccr.z == false &&
      t.cpu.ccr.v == false && t.cpu.ccr.c == false && t.cpu.pc == 0x1002) = true := by decide

theorem test_orab :
    after (before 0x00 0x00 0x0000 0x0000 0x1000 false false true false false true
      [(0x1000, 0xCA), (0x1001, 0x00)]) (fun t =>
      t.cpu.b == 0x00 && t.cpu.ccr.h == false && t.cpu.ccr.n == false && t.cpu.ccr.z == true &&
      t.cpu.ccr.v == false && t.cpu.ccr.c == true && t.cpu.pc == 0x1002) = true := by decide

theorem test_eora :
    after (before 0xFF 0x00 0x0000 0x0000 0x1000 false false false false true true
      [(0x1000, 0x88), (0x1001, 0xFF)]) (fun t =>
      t.cpu.a == 0x00 && t.cpu.ccr.h == false && t.cpu.ccr.n == false && t.cpu.ccr.z == true &&
      t.cpu.ccr.v == false && t.cpu.ccr.c == true && t.cpu.pc == 0x1002) = true := by decide

theorem test_eorb :
    after (before 0x00 0x55 0x0000 0x0000 0x1000 false false false false false false
      [(0x1000, 0xC8), (0x1001, 0xFF)]) (fun t =>
      t.cpu.b == 0xAA && t.cpu.ccr.h == false && t.cpu.ccr.n == true && t.cpu.ccr.z == false &&
      t.cpu.ccr.v == false && t.cpu.ccr.c == false && t.cpu.pc == 0x1002) = true := by decide

theorem test_coma :
    after (before 0x00 0x00 0x0000 0x0000 0x1000 false false false false false false
      [(0x1000, 0x43)]) (fun t =>
      t.cpu.a == 0xFF && t.cpu.ccr.h == false && t.cpu.ccr.n == true && t.cpu.ccr.z == false &&
      t.cpu.ccr.v == false && t.cpu.ccr.c == true && t.cpu.pc == 0x1001) = true := by decide

theorem test_comb :
    after (before 0x00 0xFF 0x0000 0x0000 0x1000 false false false false true false
      [(0x1000, 0x53)]) (fun t =>
      t.cpu.b == 0x00 && t.cpu.ccr.h == false && t.cpu.ccr.n == false && t.cpu.ccr.z == true &&
      t.cpu.ccr.v == false && t.cpu.ccr.c == true && t.cpu.pc == 0x1001) = true := by decide

theorem test_com :
    after (before 0x00 0x00 0x0000 0x0000 0x1000 false false false false false false
      [(0x1000, 0x73), (0x1001, 0x20), (0x1002, 0x00), (0x2000, 0x55)]) (fun t =>
      t.cpu.ccr.h == false && t.cpu.ccr.n == true && t.cpu.ccr.z == false && t.cpu.ccr.v == false &&
      t.cpu.ccr.c == true && t.ext.get 0x2000 == 0xAA && t.cpu.pc == 0x1003) = true := by decide

theorem test_clra :
    after (before 0xFF 0x00 0x0000 0x0000 0x1000 true false true false true true
      [(0x1000, 0x4F)]) (fun t =>
      t.cpu.a == 0x00 && t.cpu.ccr.h == true && t.cpu.ccr.n == false && t.cpu.ccr.z == true &&
      t.cpu.ccr.v == false && t.cpu.ccr.c == false && t.cpu.pc == 0x1001) = true := by decide

theorem test_clrb :
    after (before 0x00 0x12 0x0000 0x0000 0x1000 false false false false false true
      [(0x1000, 0x5F)]) (fun t =>
      t.cpu.b == 0x00 && t.cpu.ccr.h == false && t.cpu.ccr.n == false && t.cpu.ccr.z == true &&
      t.cpu.ccr.v == false && t.cpu.ccr.c == false && t.cpu.pc == 0x1001) = true := by decide

theorem test_clr :
    after (before 0x00 0x00 0x2000 0x0000 0x1000 false false true false false true
      [(0x1000, 0x6F), (0x1001, 0x05), (0x2005, 0x99)]) (fun t =>
      t.cpu.ccr.h == false && t.cpu.ccr.n == false && t.cpu.ccr.z == true && t.cpu.ccr.v == false &&
      t.cpu.ccr.c == false && t.ext.get 0x2005 == 0x00 && t.cpu.pc == 0x1002) = true := by decide

theorem test_asla :
    after (before 0x80 0x00 0x0000 0x0000 0x1000 false false false false false false
      [(0x1000, 0x48)]) (fun t =>
      t.cpu.a == 0x00 && t.cpu.ccr.h == false && t.cpu.ccr.n == false && t.cpu.ccr.z == true &&
      t.cpu.ccr.v == true && t.cpu.ccr.c == true && t.cpu.pc == 0x1001) = true := by decide

theorem test_aslb :
    after (before 0x00 0xC0 0x0000 0x0000 0x1000 false false false false false false
      [(0x1000, 0x58)]) (fun t =>
      t.cpu.b == 0x80 && t.cpu.ccr.h == false && t.cpu.ccr.n == true && t.cpu.ccr.z == false &&
      t.cpu.ccr.v == false && t.cpu.ccr.c == true && t.cpu.pc == 0x1001) = true := by decide

theorem test_asl :
    after (before 0x00 0x00 0x0000 0x0000 0x1000 false false false false false true
      [(0x1000, 0x78), (0x1001, 0x20), (0x1002, 0x00), (0x2000, 0x01)]) (fun t =>
      t.cpu.ccr.h == false && t.cpu.ccr.n == false && t.cpu.ccr.z == false && t.cpu.ccr.v == false &&
      t.cpu.ccr.c == false && t.ext.get 0x2000 == 0x02 && t.cpu.pc == 0x1003) = true := by decide

theorem test_asld :
    after (before 0x80 0x00 0x0000 0x0000 0x1000 false false false false false false
      [(0x1000, 0x05)]) (fun t =>
      t.d == 0x0000 && t.cpu.ccr.h == false && t.cpu.ccr.n == false && t.cpu.ccr.z == true &&
      t.cpu.ccr.v == true && t.cpu.ccr.c == true && t.cpu.pc == 0x1001) = true := by decide

theorem test_asra :
    after (before 0x81 0x00 0x0000 0x0000 0x1000 false false false false false false
      [(0x1000, 0x47)]) (fun t =>
      t.cpu.a == 0xC0 && t.cpu.ccr.h == false && t.cpu.ccr.n == true && t.cpu.ccr.z == false &&
      t.cpu.ccr.v == false && t.cpu.ccr.c == true && t.cpu.pc == 0x1001) = true := by decide

theorem test_asrb :
    after (before 0x00 0x01 0x0000 0x0000 0x1000 false false false false false false
      [(0x1000, 0x57)]) (fun t =>
      t.cpu.b == 0x00 && t.cpu.ccr.h == false && t.cpu.ccr.n == false && t.cpu.ccr.z == true &&
      t.cpu.ccr.v == true && t.cpu.ccr.c == true && t.cpu.pc == 0x1001) = true := by decide

theorem test_asr :
    after (before 0x00 0x00 0x0000 0x0000 0x1000 false false false false false false
      [(0x1000, 0x77), (0x1001, 0x20), (0x1002, 0x00), (0x2000, 0x80)]) (fun t =>
      t.cpu.ccr.h == false && t.cpu.ccr.n == true && t.cpu.ccr.z == false && t.cpu.ccr.v == true &&
      t.cpu.ccr.c == false && t.ext.get 0x2000 == 0xC0 && t.cpu.pc == 0x1003) = true := by decide

theorem test_lsra :
    after (before 0x01 0x00 0x0000 0x0000 0x1000 false false true false false false
      [(0x1000, 0x44)]) (fun t =>
      t.cpu.a == 0x00 && t.cpu.ccr.h == false && t.cpu.ccr.n == false && t.cpu.ccr.z == true &&
      t.cpu.ccr.v == true && t.cpu.ccr.c == true && t.cpu.pc == 0x1001) = true := by decide

theorem test_lsrb :
    after (before 0x00 0x80 0x0000 0x0000 0x1000 false false false false false false
      [(0x1000, 0x54)]) (fun t =>
      t.cpu.b == 0x40 && t.cpu.ccr.h == false && t.cpu.ccr.n == false && t.cpu.ccr.z == false &&
      t.cpu.ccr.v == false && t.cpu.ccr.c == false && t.cpu.pc == 0x1001) = true := by decide

theorem test_lsr :
    after (before 0x00 0x00 0x2000 0x0000 0x1000 false false false false false false
      [(0x1000, 0x64), (0x1001, 0x00), (0x2000, 0xFF)]) (fun t =>
      t.cpu.ccr.h == false && t.cpu.ccr.n == false && t.cpu.ccr.z == false && t.cpu.ccr.v == true &&
      t.cpu.ccr.c == true && t.ext.get 0x2000 == 0x7F && t.cpu.pc == 0x1002) = true := by decide

theorem test_lsrd :
    after (before 0x00 0x01 0x0000 0x0000 0x1000 false false true false false false
      [(0x1000, 0x04)]) (fun t =>
      t.d == 0x0000 && t.cpu.ccr.h == false && t.cpu.ccr.n == false && t.cpu.ccr.z == true &&
      t.cpu.ccr.v == true && t.cpu.ccr.c == true && t.cpu.pc == 0x1001) = true := by decide

theorem test_rola :
    after (before 0x80 0x00 0x0000 0x0000 0x1000 false false false false false true
      [(0x1000, 0x49)]) (fun t =>
      t.cpu.a == 0x01 && t.cpu.ccr.h == false && t.cpu.ccr.n == false && t.cpu.ccr.z == false &&
      t.cpu.ccr.v == true && t.cpu.ccr.c == true && t.cpu.pc == 0x1001) = true := by decide

theorem test_rolb :
    after (before 0x00 0x40 0x0000 0x0000 0x1000 false false false false false false
      [(0x1000, 0x59)]) (fun t =>
      t.cpu.b == 0x80 && t.cpu.ccr.h == false && t.cpu.ccr.n == true && t.cpu.ccr.z == false &&
      t.cpu.ccr.v == true && t.cpu.ccr.c == false && t.cpu.pc == 0x1001) = true := by decide

theorem test_rol :
    after (before 0x00 0x00 0x0000 0x0000 0x1000 false false false false false true
      [(0x1000, 0x79), (0x1001, 0x20), (0x1002, 0x00), (0x2000, 0x00)]) (fun t =>
      t.cpu.ccr.h == false && t.cpu.ccr.n == false && t.cpu.ccr.z == false && t.cpu.ccr.v == false &&
      t.cpu.ccr.c == false && t.ext.get 0x2000 == 0x01 && t.cpu.pc == 0x1003) = true := by decide

theorem test_rora :
    after (before 0x01 0x00 0x0000 0x0000 0x1000 false false false false false true
      [(0x1000, 0x46)]) (fun t =>
      t.cpu.a == 0x80 && t.cpu.ccr.h == false && t.cpu.ccr.n == true && t.cpu.ccr.z == false &&
      t.cpu.ccr.v == false && t.cpu.ccr.c == true && t.cpu.pc == 0x1001) = true := by decide

theorem test_rorb :
    after (before 0x00 0x01 0x0000 0x0000 0x1000 false false false false false false
      [(0x1000, 0x56)]) (fun t =>
      t.cpu.b == 0x00 && t.cpu.ccr.h == false && t.cpu.ccr.n == false && t.cpu.ccr.z == true &&
      t.cpu.ccr.v == true && t.cpu.ccr.c == true && t.cpu.pc == 0x1001) = true := by decide

theorem test_ror :
    after (before 0x00 0x00 0x0000 0x0000 0x1000 false false false false false true
      [(0x1000, 0x76), (0x1001, 0x20), (0x1002, 0x00), (0x2000, 0x02)]) (fun t =>
      t.cpu.ccr.h == false && t.cpu.ccr.n == true && t.cpu.ccr.z == false && t.cpu.ccr.v == true &&
      t.cpu.ccr.c == false && t.ext.get 0x2000 == 0x81 && t.cpu.pc == 0x1003) = true := by decide

theorem test_ldab :
    after (before 0x00 0x00 0x0001 0x0000 0x1000 false false false false false false
      [(0x0100, 0x80), (0x1000, 0xE6), (0x1001, 0xFF)]) (fun t =>
      t.cpu.b == 0x80 && t.cpu.ccr.h == false && t.cpu.ccr.n == true && t.cpu.ccr.z == false &&
      t.cpu.ccr.v == false && t.cpu.ccr.c == false && t.cpu.pc == 0x1002) = true := by decide

theorem test_staa :
    after (before 0x80 0x00 0x0000 0x0000 0x1000 false false false false true true
      [(0x1000, 0x97), (0x1001, 0x90)]) (fun t =>
      t.cpu.ccr.h == false && t.cpu.ccr.n == true && t.cpu.ccr.z == false && t.cpu.ccr.v == false &&
      t.cpu.ccr.c == true && t.ext.get 0x0090 == 0x80 && t.cpu.pc == 0x1002) = true := by decide

theorem test_stab :
    after (before 0x00 0x00 0x0000 0x0000 0x1000 false false true false false false
      [(0x1000, 0xF7), (0x1001, 0x20), (0x1002, 0x00)]) (fun t =>
      t.cpu.ccr.h == false && t.cpu.ccr.n == false && t.cpu.ccr.z == true && t.cpu.ccr.v == false &&
      t.cpu.ccr.c == false && t.ext.get 0x2000 == 0x00 && t.cpu.pc == 0x1003) = true := by decide

theorem test_tab :
    after (before 0x80 0x01 0x0000 0x0000 0x1000 false false false false true true
      [(0x1000, 0x16)]) (fun t =>
      t.cpu.a == 0x80 && t.cpu.b == 0x80 && t.cpu.ccr.h == false && t.cpu.ccr.n == true && t.cpu.ccr.z == false &&
      t.cpu.ccr.v == false && t.cpu.ccr.c == true && t.cpu.pc == 0x1001) = true := by decide

theorem test_tba :
    after (before 0x80 0x00 0x0000 0x0000 0x1000 false false false false true false
      [(0x1000, 0x17)]) (fun t =>
      t.cpu.a == 0x00 && t.cpu.b == 0x00 && t.cpu.ccr.h == false && t.cpu.ccr.n == false && t.cpu.ccr.z == true &&
      t.cpu.ccr.v == false && t.cpu.ccr.c == false && t.cpu.pc == 0x1001) = true := by decide

theorem test_psha :
    after (before 0x12 0x00 0x0000 0x00FF 0x1000 false false false true false true
      [(0x1000, 0x36)]) (fun t =>
      t.cpu.sp == 0xFE && t.cpu.ccr.h == false && t.cpu.ccr.i == false && t.cpu.ccr.n == false &&
      t.cpu.ccr.z == true && t.cpu.ccr.v == false && t.cpu.ccr.c == true && t.ext.get 0x00FF == 0x12 &&
      t.cpu.pc == 0x1001) = true := by decide

theorem test_pula :
    after (before 0x00 0x00 0x0000 0x00FE 0x1000 false false false true false false
      [(0x00FF, 0x80), (0x1000, 0x32)]) (fun t =>
      t.cpu.a == 0x80 && t.cpu.sp == 0xFF && t.cpu.ccr.h == false && t.cpu.ccr.i == false &&
      t.cpu.ccr.n == false && t.cpu.ccr.z == true && t.cpu.ccr.v == false && t.cpu.ccr.c == false &&
      t.cpu.pc == 0x1001) = true := by decide

theorem test_jmp :
    after (before 0x00 0x00 0x0000 0x00FF 0x1000 false false false false false true
      [(0x1000, 0x7E), (0x1001, 0x23), (0x1002, 0x45)]) (fun t =>
      t.cpu.pc == 0x2345 && t.cpu.sp == 0xFF && t.cpu.ccr.h == false && t.cpu.ccr.i == false &&
      t.cpu.ccr.n == false && t.cpu.ccr.z == false && t.cpu.ccr.v == false && t.cpu.ccr.c == true) = true := by decide

theorem test_jsr :
    after (before 0x00 0x00 0x0000 0x00FF 0x1000 false false false false false false
      [(0x1000, 0xBD), (0x1001, 0x23), (0x1002, 0x45)]) (fun t =>
      t.cpu.pc == 0x2345 && t.cpu.sp == 0xFD && t.ext.get 0x00FF == 0x03 && t.ext.get 0x00FE == 0x10) = true := by decide

theorem test_bsr :
    after (before 0x00 0x00 0x0000 0x00FF 0x1000 false false false false false false
      [(0x1000, 0x8D), (0x1001, 0x10)]) (fun t =>
      t.cpu.pc == 0x1012 && t.cpu.sp == 0xFD && t.ext.get 0x00FF == 0x02 && t.ext.get 0x00FE == 0x10) = true := by decide

theorem test_rts :
    after (before 0x00 0x00 0x0000 0x00FD 0x1000 false false false false false true
      [(0x00FE, 0x10), (0x00FF, 0x03), (0x1000, 0x39)]) (fun t =>
      t.cpu.pc == 0x1003 && t.cpu.sp == 0xFF && t.cpu.ccr.h == false && t.cpu.ccr.i == false &&
      t.cpu.ccr.n == false && t.cpu.ccr.z == false && t.cpu.ccr.v == false && t.cpu.ccr.c == true) = true := by decide

theorem test_nop :
    after (before 0x00 0x00 0x0000 0x0000 0x1000 true true true true true true
      [(0x1000, 0x01)]) (fun t =>
      t.cpu.pc == 0x1001 && t.cpu.ccr.h == true && t.cpu.ccr.i == true && t.cpu.ccr.n == true &&
      t.cpu.ccr.z == true && t.cpu.ccr.v == true && t.cpu.ccr.c == true) = true := by decide

theorem test_brn :
    after (before 0x00 0x00 0x0000 0x0000 0x1000 false false false false false false
      [(0x1000, 0x21), (0x1001, 0x10)]) (fun t =>
      t.cpu.pc == 0x1002) = true := by decide

theorem test_bhi :
    after (before 0x00 0x00 0x0000 0x0000 0x1000 false false false false false false
      [(0x1000, 0x22), (0x1001, 0x10)]) (fun t =>
      t.cpu.pc == 0x1012) = true := by decide

theorem test_bls :
    after (before 0x00 0x00 0x0000 0x0000 0x1000 false false false false false false
      [(0x1000, 0x23), (0x1001, 0x10)]) (fun t =>
      t.cpu.pc == 0x1002) = true := by decide

theorem test_bcc :
    after (before 0x00 0x00 0x0000 0x0000 0x1000 false false false false false false
      [(0x1000, 0x24), (0x1001, 0x10)]) (fun t =>
      t.cpu.pc == 0x1012) = true := by decide

theorem test_bcs :
    after (before 0x00 0x00 0x0000 0x0000 0x1000 false false false false false false
      [(0x1000, 0x25), (0x1001, 0x10)]) (fun t =>
      t.cpu.pc == 0x1002) = true := by decide

theorem test_bne :
    after (before 0x00 0x00 0x0000 0x0000 0x1000 false false false false false false
      [(0x1000, 0x26), (0x1001, 0x10)]) (fun t =>
      t.cpu.pc == 0x1012) = true := by decide

theorem test_beq :
    after (before 0x00 0x00 0x0000 0x0000 0x1000 false false false false false false
      [(0x1000, 0x27), (0x1001, 0x10)]) (fun t =>
      t.cpu.pc == 0x1002) = true := by decide

theorem test_bvc :
    after (before 0x00 0x00 0x0000 0x0000 0x1000 false false false false false false
      [(0x1000, 0x28), (0x1001, 0x10)]) (fun t =>
      t.cpu.pc == 0x1012) = true := by decide

theorem test_bvs :
    after (before 0x00 0x00 0x0000 0x0000 0x1000 false false false false false false
      [(0x1000, 0x29), (0x1001, 0x10)]) (fun t =>
      t.cpu.pc == 0x1002) = true := by decide

theorem test_bpl :
    after (before 0x00 0x00 0x0000 0x0000 0x1000 false false false false false false
      [(0x1000, 0x2A), (0x1001, 0x10)]) (fun t =>
      t.cpu.pc == 0x1012) = true := by decide

theorem test_bmi :
    after (before 0x00 0x00 0x0000 0x0000 0x1000 false false false false false false
      [(0x1000, 0x2B), (0x1001, 0x10)]) (fun t =>
      t.cpu.pc == 0x1002) = true := by decide

theorem test_bge :
    after (before 0x00 0x00 0x0000 0x0000 0x1000 false false false false false false
      [(0x1000, 0x2C), (0x1001, 0x10)]) (fun t =>
      t.cpu.pc == 0x1012) = true := by decide

theorem test_blt :
    after (before 0x00 0x00 0x0000 0x0000 0x1000 false false false false false false
      [(0x1000, 0x2D), (0x1001, 0x10)]) (fun t =>
      t.cpu.pc == 0x1002) = true := by decide

theorem test_bgt :
    after (before 0x00 0x00 0x0000 0x0000 0x1000 false false false false false false
      [(0x1000, 0x2E), (0x1001, 0x10)]) (fun t =>
      t.cpu.pc == 0x1012) = true := by decide

theorem test_ble :
    after (before 0x00 0x00 0x0000 0x0000 0x1000 false false false false false false
      [(0x1000, 0x2F), (0x1001, 0x10)]) (fun t =>
      t.cpu.pc == 0x1002) = true := by decide

set_option maxRecDepth 2000 in
theorem test_swi :
    after (before 0x12 0x34 0x5678 0x00FF 0x1000 false false false true false true
      [(0x1000, 0x3F), (0xFFFA, 0x20), (0xFFFB, 0x00)]) (fun t =>
      t.cpu.sp == 0xF8 && t.cpu.pc == 0x2000 && t.cpu.ccr.i == true && t.cpu.ccr.z == true &&
      t.cpu.ccr.c == true && t.ext.get 0x00FF == 0x01 && t.ext.get 0x00FE == 0x10 && t.ext.get 0x00FD == 0x78 &&
      t.ext.get 0x00FC == 0x56 && t.ext.get 0x00FB == 0x12 && t.ext.get 0x00FA == 0x34 && t.ext.get 0x00F9 == 0xC5) = true := by decide

set_option maxRecDepth 2000 in
theorem test_wai :
    after (before 0x12 0x34 0x5678 0x00FF 0x1000 false false true false false true
      [(0x1000, 0x3E)]) (fun t =>
      t.cpu.sp == 0xF8 && t.ext.get 0x00FF == 0x01 && t.ext.get 0x00FE == 0x10 && t.ext.get 0x00FD == 0x78 &&
      t.ext.get 0x00FC == 0x56 && t.ext.get 0x00FB == 0x12 && t.ext.get 0x00FA == 0x34 &&
      t.ext.get 0x00F9 == 0xC9 && t.cpu.pc == 0x1001) = true := by decide

set_option maxRecDepth 2000 in
theorem test_rti :
    after (before 0x00 0x00 0x0000 0x00F8 0x1000 false false false false false false
      [(0x00F9, 0xFF), (0x00FA, 0x34), (0x00FB, 0x12), (0x00FC, 0x56), (0x00FD, 0x78), (0x00FE, 0x10), (0x00FF, 0x01), (0x1000, 0x3B)]) (fun t =>
      t.cpu.b == 0x34 && t.cpu.a == 0x12 && t.cpu.x == 0x5678 && t.cpu.pc == 0x1001 && t.cpu.sp == 0xFF &&
      t.cpu.ccr.h == true && t.cpu.ccr.i == true && t.cpu.ccr.n == true && t.cpu.ccr.z == true &&
      t.cpu.ccr.v == true && t.cpu.ccr.c == true) = true := by decide

theorem test_clc :
    after (before 0x00 0x00 0x0000 0x0000 0x1000 true true true true true true
      [(0x1000, 0x0C)]) (fun t =>
      t.cpu.ccr.h == true && t.cpu.ccr.i == true && t.cpu.ccr.n == true && t.cpu.ccr.z == true &&
      t.cpu.ccr.v == true && t.cpu.ccr.c == false && t.cpu.pc == 0x1001) = true := by decide

theorem test_sec :
    after (before 0x00 0x00 0x0000 0x0000 0x1000 false false false false false false
      [(0x1000, 0x0D)]) (fun t =>
      t.cpu.ccr.h == false && t.cpu.ccr.i == false && t.cpu.ccr.n == false && t.cpu.ccr.z == false &&
      t.cpu.ccr.v == false && t.cpu.ccr.c == true && t.cpu.pc == 0x1001) = true := by decide

theorem test_clv :
    after (before 0x00 0x00 0x0000 0x0000 0x1000 true true true true true true
      [(0x1000, 0x0A)]) (fun t =>
      t.cpu.ccr.h == true && t.cpu.ccr.i == true && t.cpu.ccr.n == true && t.cpu.ccr.z == true &&
      t.cpu.ccr.v == false && t.cpu.ccr.c == true && t.cpu.pc == 0x1001) = true := by decide

theorem test_sev :
    after (before 0x00 0x00 0x0000 0x0000 0x1000 false false false false false false
      [(0x1000, 0x0B)]) (fun t =>
      t.cpu.ccr.h == false && t.cpu.ccr.i == false && t.cpu.ccr.n == false && t.cpu.ccr.z == false &&
      t.cpu.ccr.v == true && t.cpu.ccr.c == false && t.cpu.pc == 0x1001) = true := by decide

theorem test_cli :
    after (before 0x00 0x00 0x0000 0x0000 0x1000 true true true true true true
      [(0x1000, 0x0E)]) (fun t =>
      t.cpu.ccr.h == true && t.cpu.ccr.i == false && t.cpu.ccr.n == true && t.cpu.ccr.z == true &&
      t.cpu.ccr.v == true && t.cpu.ccr.c == true && t.cpu.pc == 0x1001) = true := by decide

theorem test_sei :
    after (before 0x00 0x00 0x0000 0x0000 0x1000 false false false false false false
      [(0x1000, 0x0F)]) (fun t =>
      t.cpu.ccr.h == false && t.cpu.ccr.i == true && t.cpu.ccr.n == false && t.cpu.ccr.z == false &&
      t.cpu.ccr.v == false && t.cpu.ccr.c == false && t.cpu.pc == 0x1001) = true := by decide

theorem test_tap :
    after (before 0xFF 0x00 0x0000 0x0000 0x1000 false false false false false false
      [(0x1000, 0x06)]) (fun t =>
      t.cpu.a == 0xFF && t.cpu.ccr.h == true && t.cpu.ccr.i == true && t.cpu.ccr.n == true &&
      t.cpu.ccr.z == true && t.cpu.ccr.v == true && t.cpu.ccr.c == true && t.cpu.pc == 0x1001) = true := by decide

theorem test_tpa :
    after (before 0x00 0x00 0x0000 0x0000 0x1000 false false false false false false
      [(0x1000, 0x07)]) (fun t =>
      t.cpu.a == 0xC0 && t.cpu.ccr.h == false && t.cpu.ccr.i == false && t.cpu.ccr.n == false &&
      t.cpu.ccr.z == false && t.cpu.ccr.v == false && t.cpu.ccr.c == false && t.cpu.pc == 0x1001) = true := by decide

/-! ### Devices: one step each (95_test_vectors.md 2.9) -/

/-- The reset state with other registers. -/
def withCpu (a b : Byte) (x sp pc : Word) (s : State) : State :=
  { s with cpu := { s.cpu with a := a, b := b, x := x, sp := sp, pc := pc } }

/-- The state right after reset, the stack pointer in the internal RAM and PC in plain memory. -/
def base : State := withCpu 0x12 0x34 0x2000 0x00FF 0x1000 State.reset

/-- What holds of the state an instruction answers. -/
def runs (i : Instr) (s : State) (p : State → Bool) : Bool :=
  match exec i s with
  | .next t => p t
  | .fault _ => false
  | .refused _ => false

/-- An instruction that answers a next state of which p holds. -/
theorem of_runs {i : Instr} {s : State} {p : State → Bool} (h : runs i s p = true) :
    ∃ t, exec i s = .next t ∧ p t = true := by
  unfold runs at h; split at h
  · exact ⟨_, ‹_›, h⟩
  · cases h
  · cases h

/-- A step that answers a next state of which p holds. -/
theorem of_after {s : State} {p : State → Bool} (h : after s p = true) : ∃ t, step s = .next t ∧ p t = true := by
  unfold after at h; split at h
  · exact ⟨_, ‹_›, h⟩
  · cases h
  · cases h

/-- An instruction that answers a next state. -/
theorem of_answers {i : Instr} {s : State} (h : runs i s (fun _ => true) = true) : ∃ t, exec i s = .next t :=
  (of_runs h).imp fun _ q => q.1

/-- Read of TCSR with OCF and TOF set: $60, both armed. -/
theorem test_read_tcsr_arms :
    runs (.ldaaDir 0x08) { base with timer := { base.timer with ocf := true, tof := true } }
      (fun t => t.cpu.a == 0x60 && t.timer.armOcf && t.timer.armTof && !t.timer.armIcf) = true := by decide

/-- STD $0B with the counter at $12FE in the cycle that writes $0B: the half-written $12FF does not match. -/
theorem test_half_written_compare :
    runs (.stdDir 0x0B) { base with cpu := { base.cpu with a := 0x12, b := 0x34 }, timer := { base.timer with cnt := 0x12FD } }
      (fun t => t.timer.ocr == 0x1234 && !t.timer.ocf && t.timer.cnt == 0x12FF) = true := by decide

/-- A falling edge on P20 in a cycle in which the counter becomes $4567. -/
theorem test_input_capture :
    ({ base with timer := { base.timer with cnt := 0x4566, p20prev := true } }.tick.timer.icr == 0x4567 &&
      { base with timer := { base.timer with cnt := 0x4566, p20prev := true } }.tick.timer.icf) = true := by decide

/-- $00FF to OCR's low byte after a read of TCSR with OCF set clears OCF. -/
theorem test_compare_flag_clears :
    runs (.staaDir 0x0C) { base with timer := { base.timer with ocf := true, armOcf := true } }
      (fun t => !t.timer.ocf && !t.timer.armOcf && t.timer.ocr == 0xFF12) = true := by decide

/-- A frame ($55, stop) with RDRF clear; read of TRCSR with RE, TE and TDRE set. -/
theorem test_receive_frame :
    ((frameBits 0x55 true).foldl (fun (k : Sci) b => k.lineBit 0 b) { base.sci with re := true, te := true }).trcsr = 0xAA := by
  decide

/-- RE and TE to TRCSR: P24's direction bit set, P23's clear, the preamble begins. -/
theorem test_trcsr_forces_directions :
    runs (.staaDir 0x11) (withCpu 0x0A 0 0 0xFF 0x1000 { base with ports := { base.ports with p2ddr := 0b01000 } })
      (fun t => t.ports.p2ddr == 0b10000 && t.sci.txPreamble == 9 && t.sci.re && t.sci.te) = true := by decide

/-- P1DDR = $0F, P1OUT = $3C, the pins at $A5: a read of $02 gives $AC. -/
theorem test_port1_read :
    runs (.ldaaDir 0x02)
      { base with ports := { base.ports with p1ddr := 0x0F, p1out := 0x3C }, pins := { base.pins with p1 := 0xA5 } }
      (fun t => t.cpu.a == 0xAC) = true := by decide

/-- Mode 2, the pins at %10101: a read of $03 gives $55. -/
theorem test_port2_read :
    runs (.ldaaDir 0x03) { base with pins := { base.pins with p2 := 0b10101 } } (fun t => t.cpu.a == 0x55) = true := by
  decide

/-- RAME clear: $80 is external. -/
theorem test_ram_out_of_map :
    runs (.ldaaDir 0x80) { base with ram := [(0x80, 0x11)], ext := [(0x80, 0x22)], ramcr := { stbyPwr := true, rame := false } }
      (fun t => t.cpu.a == 0x22) = true := by decide

/-- A store to ROM keeps its byte, and a read finds it (R88). -/
theorem test_rom_keeps :
    runs (.staaExt 0xC000)
      { base with extMap := [{ first := 0xC000, last := 0xFFFF, kind := .rom }], ext := [(0xC000, 0x55)] }
      (fun t => t.ext.get 0xC000 == 0x55 && t.readable 0xC000 && !t.writable 0xC000 && t.writable 0xBFFF) = true := by decide

/-- Where the platform has no memory a read is a free byte, and a store changes nothing (R88, U11). -/
theorem test_no_memory :
    runs (.staaExt 0x4000) { base with extMap := [{ first := 0x4000, last := 0x4000, kind := .other }] }
      (fun t => t.ext == [] && !t.readable 0x4000 && t.plain 0x4000) = true := by decide

/-! ### Witnesses: a state and operands that meet the hypotheses of each statement, at the boundaries of its clauses -/

theorem witness_DecodeOnlyEncodings : ∃ i rest, decode [0x86#8, 0xFF#8, 0x01#8] = .ok (i, rest) := ⟨_, _, rfl⟩

theorem witness_FirstBytes :
    (0x00#8).toNat ∈ unassignedOpcodes ∧ (0xCF#8).toNat ∈ unassignedOpcodes ∧
      (0x01#8).toNat ∉ unassignedOpcodes ∧ (0xFF#8).toNat ∉ unassignedOpcodes := by decide

/-- ADDA #$01 at $1000, the last byte before the next instruction in plain memory. -/
def atAdda : State := { base with ext := [(0x1000, 0x8B), (0x1001, 0x01)] }

theorem witness_StepRunsInstruction :
    atAdda.run = .running ∧ atAdda.pins.halt = true ∧ atAdda.request = none ∧
      decode [atAdda.peek 0x1000, atAdda.peek 0x1001, atAdda.peek 0x1002] = .ok (.addaImm 0x01, [0x00#8]) ∧
      ∀ k < instrBytes (.addaImm 0x01), atAdda.readable (0x1000 + BitVec.ofNat 16 k) = true :=
  ⟨rfl, rfl, rfl, rfl, by decide⟩

theorem witness_FetchStops_unassigned :
    base.run = .running ∧ base.pins.halt = true ∧ base.request = none ∧ base.readable base.cpu.pc = true ∧
      (base.peek base.cpu.pc).toNat ∈ unassignedOpcodes := by decide

theorem witness_FetchStops_reserved :
    (withCpu 0 0 0 0 0x0015 base).run = .running ∧ (withCpu 0 0 0 0 0x0015 base).pins.halt = true ∧
      (withCpu 0 0 0 0 0x0015 base).request = none ∧ isReserved 0x0015#16 = true ∧ isReserved 0x001F#16 = true ∧
      isReserved 0x0014#16 = false ∧ isReserved 0x0020#16 = false := by decide

theorem witness_ReservedAddressStops :
    ((Src8.mem (.dir 0x15)).addrs base).find? isReserved = some 0x0015 ∧
      ((Src16.mem (.ext 0x0014)).addrs base).find? isReserved = some 0x0015 ∧
      ((Src16.mem (.idx 0x1F)).addrs (withCpu 0 0 0 0 0 base)).find? isReserved = some 0x001F ∧
      [(Far.ext 0x001F).mem.ea base].find? isReserved = some 0x001F ∧
      ((withCpu 0 0 0 0x001B 0 base).frameAddrs).find? isReserved = some 0x001B ∧
      ((withCpu 0 0 0 0x0020 0 base).frameAddrs).find? isReserved = some 0x001F ∧
      (addrsUp 7 ((withCpu 0 0 0 0x000E 0 base).cpu.sp + 1)).find? isReserved = some 0x0015 := by decide

/-- NMI pending with a stack that reaches into the reserved addresses. -/
theorem witness_ReservedAddressStops_entry :
    let s := { withCpu 0 0 0 0x0020 0x1000 base with nmiPending := true }
    s.run = .running ∧ s.pins.halt = true ∧ s.request = some .nmi ∧ s.frameAddrs.find? isReserved = some 0x001F := by
  decide

theorem witness_OperandValues :
    base.readable ((Mem.dir 0x80).ea base) = true ∧ base.readable ((Mem.dir 0xFF).ea base) = true ∧
      base.readable ((Mem.dir 0xFF).ea base + 1) = true ∧ base.readable ((Mem.ext 0xFFFF).ea base) = true ∧
      base.readable ((Mem.ext 0xFFFE).ea base + 1) = true ∧
      base.plain ((Mem.idx 0xFF).ea base) = true ∧ base.plain ((Mem.idx 0xFF).ea base + 1) = true := by decide

/-- No address of a list is reserved, as a Bool. -/
theorem free {l : List Addr} (h : l.all (fun a => !isReserved a) = true) : ∀ a ∈ l, isReserved a = false := by
  simpa using h

/-- Every address of a list has a property, as a Bool. -/
theorem every {p : Addr → Bool} {l : List Addr} (h : l.all p = true) : ∀ a ∈ l, p a = true := by
  simpa using h

/-- Operands just below and just above the reserved addresses, and an immediate. -/
theorem witness_operand8 :
    (∀ a ∈ (Src8.mem (.dir 0x14)).addrs base, isReserved a = false) ∧
      (∀ a ∈ (Src8.mem (.ext 0x0020)).addrs base, isReserved a = false) ∧
      (∀ a ∈ (Src8.mem (.idx 0xFF)).addrs base, isReserved a = false) ∧
      (∀ a ∈ (Src8.imm 0x15).addrs base, isReserved a = false) :=
  ⟨free (by decide), free (by decide), free (by decide), free (by decide)⟩

theorem witness_AddCompletes : ∀ a ∈ (Src8.mem (.dir 0x14)).addrs base, isReserved a = false :=
  free (by decide)
theorem witness_SubtractCompletes : ∀ a ∈ (Src8.mem (.dir 0x20)).addrs base, isReserved a = false :=
  free (by decide)
theorem witness_LogicCompletes : ∀ a ∈ (Src8.mem (.idx 0xFF)).addrs base, isReserved a = false :=
  free (by decide)
theorem witness_DoubleCompletes : ∀ a ∈ (Src16.mem (.dir 0x13)).addrs base, isReserved a = false :=
  free (by decide)
theorem witness_LoadsComplete : ∀ a ∈ (Src16.mem (.ext 0xFFFF)).addrs base, isReserved a = false :=
  free (by decide)

/-- By hand from R234, R268 and R270: BITB, PSHB, PULB; from R340 and R341 the test and unassigned opcodes. -/
theorem test_bitb :
    runs (.bitbImm 0x80) (withCpu 0 0x81 0 0 0x1000 base) (fun t =>
      t.cpu.b == 0x81 && t.cpu.ccr.n && !t.cpu.ccr.z && !t.cpu.ccr.v) = true := by decide

theorem test_pshb :
    runs .pshb base (fun t => t.cpu.sp == 0xFE && t.ram.get 0xFF == 0x34) = true := by decide

theorem test_pulb :
    runs .pulb { base with cpu := { base.cpu with sp := 0xFE }, ram := [(0xFF, 0x77)] }
      (fun t => t.cpu.sp == 0xFF && t.cpu.b == 0x77 && t.cpu.a == 0x12) = true := by decide

theorem test_testCount : runs .test4E base (fun t => t.run == .testCount && t.cpu.pc == base.cpu.pc) = true := by decide

theorem test_testCount_counts :
    after { base with run := .testCount, cpu := { base.cpu with pc := 0xFFFF } } (fun t =>
      t.run == .testCount && t.cpu.pc == 0x0000 && t.cpu.a == 0x12) = true := by decide

/-- Opcode $00 at PC: the step is its fault. -/
theorem test_unassigned_faults :
    step { base with ext := [(0x1001, 0x01)] } = .fault (.unassignedOpcode 0x00) := by rfl

theorem witness_MemUnaryCompletes :
    base.memoryOk = true ∧ isReserved ((Far.idx 0xFF).mem.ea base) = false ∧
      isReserved ((Far.ext 0x0014).mem.ea base) = false := by decide

theorem witness_StoresComplete :
    base.memoryOk = true ∧ isReserved ((Mem.dir 0x14).ea base) = false ∧ isReserved ((Mem.dir 0x20).ea base) = false ∧
      isReserved ((Mem.dir 0x13).ea base + 1) = false ∧ isReserved ((Mem.ext 0xFFFF).ea base + 1) = false := by decide

theorem witness_DecimalAddition :
    let s := withCpu (bcd 99) (bcd 1) 0 0 0x1000 base
    (99 < 100 ∧ 1 < 100) ∧ s.cpu.a = bcd 99 ∧ s.cpu.b = bcd 1 ∧ ∃ t, exec .aba s = .next t :=
  ⟨by decide, rfl, rfl, of_answers (by decide)⟩

theorem witness_PushesComplete :
    base.memoryOk = true ∧ isReserved base.cpu.sp = false ∧ isReserved (base.cpu.sp - 1) = false ∧
      isReserved (withCpu 0 0 0 0x0014 0 base).cpu.sp = false ∧ isReserved ((withCpu 0 0 0 0x0000 0 base).cpu.sp - 1) = false := by
  decide

theorem witness_PullsComplete :
    isReserved (base.cpu.sp + 1) = false ∧ isReserved (base.cpu.sp + 2) = false ∧ base.readable (base.cpu.sp + 1) = true ∧
      base.readable (base.cpu.sp + 2) = true ∧ isReserved ((withCpu 0 0 0 0x0012 0 base).cpu.sp + 2) = false := by decide

theorem witness_CallsComplete :
    base.memoryOk = true ∧ isReserved base.cpu.sp = false ∧ isReserved (base.cpu.sp - 1) = false := by decide

theorem witness_ReturnUndoesCall_jsr :
    (∃ o, Instr.jsrExt 0x2345 = jsrInstr o) ∧ base.memoryOk = true ∧ base.writable base.cpu.sp = true ∧
      base.writable (base.cpu.sp - 1) = true ∧ ∃ t, exec (.jsrExt 0x2345) base = .next t :=
  ⟨⟨.ext 0x2345, rfl⟩, by decide, by decide, by decide, of_answers (by decide)⟩

theorem witness_ReturnUndoesCall_bsr : (∃ rel, Instr.bsr 0xFE = .bsr rel) ∧ ∃ t, exec (.bsr 0xFE) base = .next t :=
  ⟨⟨_, rfl⟩, of_answers (by decide)⟩

theorem witness_SwiCompletes :
    base.memoryOk = true ∧ base.run = .running ∧ (∀ a ∈ base.frameAddrs, isReserved a = false) ∧
      (∀ a ∈ base.frameAddrs, base.plain a = true) ∧ quietRead base.cpu.pc = true ∧ quietRead (base.cpu.sp - 7) = true ∧
      base.readable 0xFFFA = true ∧ base.readable 0xFFFB = true :=
  ⟨by decide, rfl, free (by decide), every (by decide), by decide, by decide, by decide, by decide⟩

theorem witness_WaiCompletes :
    let s := withCpu 0 0 0 0x0014 0x1000 base
    s.memoryOk = true ∧ (∀ a ∈ s.frameAddrs, isReserved a = false) ∧ (∀ a ∈ base.frameAddrs, base.plain a = true) :=
  ⟨by decide, free (by decide), every (by decide)⟩

theorem witness_RtiCompletes :
    let s := withCpu 0 0 0 0x00F8 0x1000 base
    (∀ a ∈ addrsUp 7 (s.cpu.sp + 1), isReserved a = false) ∧ (∀ a ∈ addrsUp 7 (s.cpu.sp + 1), s.readable a = true) :=
  ⟨free (by decide), every (by decide)⟩

theorem witness_RtiUndoesStacking :
    base.memoryOk = true ∧ (∀ a ∈ base.frameAddrs, base.writable a = true) ∧ ∃ t, exec .swi base = .next t :=
  ⟨by decide, every (by decide), of_answers (by decide)⟩

theorem witness_TestOpcodesComplete : Instr.test4E = .test4E ∧ Instr.test5E = .test5E := ⟨rfl, rfl⟩

theorem witness_CycleCounts : ∃ t, exec .mul base = .next t ∧ (!t.resetSeen) = true := of_runs (by decide)

theorem witness_ControlWriters_cli :
    base.cpu.ccr.i = true ∧ ∃ t, exec .cli base = .next t ∧ (!t.cpu.ccr.i) = true := ⟨rfl, of_runs (by decide)⟩

theorem witness_ControlWriters_sei :
    ∃ t, exec .sei { base with cpu := { base.cpu with ccr := { base.cpu.ccr with i := false } } } = .next t ∧
      t.cpu.ccr.i = true := of_runs (by decide)

theorem witness_ControlWriters_adda :
    ∃ t, exec (.addaImm 0x0F) base = .next t ∧ (t.cpu.ccr.h != base.cpu.ccr.h) = true := of_runs (by decide)

theorem witness_ControlWriters_wai : ∃ t, exec .wai base = .next t ∧ (t.run != base.run) = true :=
  of_runs (by decide)

theorem witness_ModeChangesOnlyInReset : atAdda.run ≠ .inReset ∧ ∃ t, step atAdda = .next t ∧ (t.mode == base.mode) = true :=
  ⟨by decide, of_after (by decide)⟩

theorem witness_TestCountCounts :
    let s := { base with run := .testCount }
    s.run = .testCount ∧ s.nextPins.reset = true ∧ s.nextPins.vcc = true ∧ s.nextPins.standby = true ∧ s.resetSeen = false ∧
      s.powerLost = false ∧ s.standbyLost = false := by decide

/-- IRQ1 low, I clear. -/
def irq1Low : State :=
  { base with pins := { base.pins with irq1 := false }, cpu := { base.cpu with ccr := { base.cpu.ccr with i := false } } }

theorem witness_InterruptEntry :
    irq1Low.memoryOk = true ∧ irq1Low.run = .running ∧ irq1Low.pins.halt = true ∧ irq1Low.request = some .irq1 ∧
      (∀ a ∈ irq1Low.frameAddrs, isReserved a = false) ∧ (∀ a ∈ irq1Low.frameAddrs, irq1Low.plain a = true) ∧
      quietRead (irq1Low.cpu.sp - 7) = true ∧ irq1Low.readable 0xFFF8 = true ∧
      irq1Low.readable (0xFFF8 + 1) = true :=
  ⟨by decide, rfl, rfl, rfl, free (by decide), every (by decide), by decide, by decide, by decide⟩

theorem witness_InterruptEntry_nmi :
    ({ base with nmiPending := true }).request = some .nmi ∧ base.pins.halt = true ∧ base.run = .running ∧
      (∀ a ∈ base.frameAddrs, isReserved a = false) := ⟨rfl, rfl, rfl, free (by decide)⟩

theorem witness_WakeFromWait :
    ({ irq1Low with run := .waiting }).run = .waiting ∧ ({ irq1Low with run := .waiting }).pins.halt = true ∧
      ({ irq1Low with run := .waiting }).request = some .irq1 ∧
      ({ irq1Low with run := .waiting }).readable 0xFFF8 = true := ⟨rfl, rfl, rfl, by decide⟩

theorem witness_WakeFromWait_masked :
    ({ base with run := .waiting }).run = .waiting ∧ ({ base with run := .waiting }).pins.halt = true ∧
      ({ base with run := .waiting }).cpu.ccr.i = true ∧ ({ base with run := .waiting }).nmiPending = false :=
  ⟨rfl, rfl, rfl, rfl⟩

theorem witness_WaitGoesOn :
    let s := { base with run := .waiting, pins := { base.pins with irq1 := false } }
    s.run = .waiting ∧ s.cpu.ccr.i = true ∧ s.nmiPending = false ∧
      ({ irq1Low with run := .waiting, pins := { irq1Low.pins with halt := false } }).pins.halt = false := by decide

theorem witness_HaltStopsAtBoundary :
    let low := { base with pins := { base.pins with halt := false } }
    (low.run = .running ∧ low.pins.halt = false) ∧
      (({ low with run := .halted }).memoryOk = true ∧ ({ low with run := .halted }).run = .halted) ∧
      (({ base with run := .halted }).run = .halted ∧ base.pins.halt = true) ∧
      (∀ v, ({ low with run := .halted }).nextSample.bind (·.dma) ≠ some (0x2000, v)) := ⟨by decide, by decide, by decide,
        fun v => by simp [State.nextSample, base, withCpu, State.reset]⟩

theorem witness_BoundaryAfterMaskChange_cli :
    base.cpu.ccr.i = true ∧ ∃ t, exec .cli base = .next t ∧ (!t.nmiPending) = true := ⟨rfl, of_runs (by decide)⟩

theorem witness_BoundaryAfterMaskChange_rti :
    base.irqHoldoff = false ∧ ∃ t, exec .rti base = .next t ∧ (!t.cpu.ccr.i && !t.nmiPending) = true :=
  ⟨rfl, of_runs (by decide)⟩

theorem witness_BoundaryAfterMaskChange_sei : ∃ t, exec .sei base = .next t ∧ (!t.nmiPending) = true :=
  of_runs (by decide)

/-- In reset for three E cycles, RESET rising in the next. -/
def rising : State := { base with run := .inReset, resetCycles := 3 }

theorem witness_ResetRelease :
    rising.run = .inReset ∧ rising.resetCycles = 3 ∧ rising.nextPins.reset = true ∧ rising.nextPins.vcc = true ∧
      rising.nextPins.p2.getLsbD 1 = true ∧ rising.inputs.length ≤ 1 ∧
      rising.readable 0xFFFE = true ∧ rising.readable 0xFFFF = true := by decide

/-- RESET goes low in the second cycle of a STAA. -/
def resetFalls : State :=
  { base with
    ext := [(0x1000, 0x97), (0x1001, 0x90)]
    inputs := [{ pins := base.pins, p22Between := none, rx := none, dma := none },
      { pins := { base.pins with reset := false }, p22Between := none, rx := none, dma := none }] }

theorem witness_ResetCutsTheStep :
    resetFalls.memoryOk = true ∧
      (match resetFalls.stepByRunState with
        | .next r => r.resetSeen && !r.powerLost && !r.standbyLost
        | .fault _ => false
        | .refused _ => false) = true := by decide

/-- Both supplies are down in the first cycle of a STAA; the addresses at the ends of the two halves of the RAM. -/
theorem witness_ResetCutsTheStep_supplies :
    let s := { resetFalls with inputs := [{ pins := { base.pins with standby := false, vcc := false }, p22Between := none, rx := none, dma := none }] }
    s.memoryOk = true ∧ s.resetSeen = false ∧
      (match s.stepByRunState with
        | .next r => r.resetSeen && r.powerLost && r.standbyLost
        | .fault _ => false
        | .refused _ => false) = true ∧
      (0x80#16).toNat ≤ 0xBF ∧ (0xBF#16).toNat ≤ 0xBF ∧ 0xC0 ≤ (0xC0#16).toNat ∧ (0xFF#16).toNat ≤ 0xFF := by decide

theorem witness_ResetRefusals :
    (({ rising with resetCycles := 2 }).run = .inReset ∧ ({ rising with resetCycles := 2 }).nextPins.reset = true ∧
      ({ rising with resetCycles := 2 }).nextPins.vcc = true ∧ ({ rising with resetCycles := 2 }).resetCycles < 3) ∧
    (3 ≤ rising.resetCycles ∧
      ({ rising with pins := { rising.pins with p2 := 0b00001 } }).nextPins.p2.getLsbD 1 = false) := by decide

theorem witness_TimerCycle : base.resetSeen = false := rfl

theorem witness_TimerRegisters : ({ base with timer := { base.timer with tof := true, armTof := true } }).resetSeen = false := rfl

/-- CC1 and CC0, then CC1 alone, for $10; TE and RE from clear, then TE kept, for $11. -/
theorem witness_SerialRegisters :
    (withCpu 0x0C 0 0 0 0 base).cpu.a.getLsbD 3 = true ∧ (withCpu 0x08 0 0 0 0 base).cpu.a.getLsbD 3 = true ∧
      (withCpu 0x0A 0 0 0 0 base).cpu.a.getLsbD 3 = true ∧ (withCpu 0x0A 0 0 0 0 base).cpu.a.getLsbD 1 = true ∧
      base.tick.sci.te = false ∧
      ({ base with sci := { base.sci with te := true } }).tick.sci.te = true := by decide

theorem witness_Arbitration : base.resetSeen = false ∧ base.pins.nmi = true ∧
    ({ base with inputs := [{ pins := { base.pins with nmi := false }, p22Between := none, rx := none, dma := none }] }).nextPins.nmi = false := by
  decide

/-- Line directions: all in, then all out; P22 as a clock output. -/
theorem witness_PortRegisters :
    base.ports.p2ddr.getLsbD 0 = false ∧ base.ports.p2ddr.getLsbD 4 = false ∧
      ({ base with ports := { base.ports with p2ddr := 0b11111 } }).ports.p2ddr.getLsbD 2 = true ∧
      ({ base with sci := { base.sci with cc1 := true } }).sci.cc0 = false := by decide

/-- The external bit clock with the level of P22 high and seven rises counted. -/
def eighthRise : State :=
  { base with
    sci := { base.sci with cc1 := true, cc0 := true, extCount := 7 }
    pins := { base.pins with p2 := 0b00110 } }

/-- The same with P22 low at the ends of the E cycle and high between them, a clock as fast as E. -/
def eighthRiseAtE : State :=
  { eighthRise with
    pins := base.pins
    inputs := [{ pins := base.pins, p22Between := some true, rx := none, dma := none }] }

/-- A clock edge, half a bit, and neither; a rise of P22 that is the eighth, between two levels too, and one that is not. -/
theorem witness_TransmitterFrames_clock :
    let low := { eighthRise with pins := base.pins }
    let levels (s : State) := s.sci.p22prev :: (s.nextP22Between.toList ++ [s.sample.p2Lines.getLsbD 2])
    base.resetSeen = false ∧ base.nextRx = none ∧ base.sci.externalClock = false ∧ base.sci.bitCycles = 16 ∧
      (15 + 1) % 16 = 0 ∧ (7 + 1) % 16 = 16 / 2 ∧
      eighthRise.resetSeen = false ∧ eighthRise.nextRx = none ∧ eighthRise.sci.externalClock = true ∧
      levels eighthRise = [false, true] ∧ levels eighthRiseAtE = [false, true, false] ∧ levels low = [false, false] ∧
      eighthRise.sci.extCount = 7 ∧ eighthRiseAtE.nextRx = none ∧ eighthRiseAtE.sci.externalClock = true ∧
      [false, true] <:+: [false, true, false] ∧ ¬[false, true] <:+: [false, false] ∧
      ({ eighthRise with sci := { eighthRise.sci with extCount := 6 } }).sci.extCount < 7 := by decide

/-- A rise and a fall of P22 in one E cycle are the eighth period of the external clock (R411): a byte in TDR is sent. -/
theorem test_external_clock_at_e :
    let k := ({ eighthRiseAtE with sci := { eighthRiseAtE.sci with te := true, tdre := false } }).tick.sci
    k.extCount = 0 ∧ k.tdre = true ∧ k.txLine = false := by decide

theorem witness_CounterOverflow :
    base.resetSeen = false ∧ (base.ticks 3).resetSeen = false ∧ base.timer.cnt = 0x0000 ∧ base.timer.tof = false ∧
      3 < 65536 := by decide

theorem witness_TimerWordAccesses :
    base.resetSeen = false ∧ base.tick.resetSeen = false ∧
      ({ base with timer := { base.timer with tof := true } }).tick.timer.tof = true := by decide

theorem witness_ReceiverFrames :
    let k := { base.sci with re := true }
    k.re = true ∧ k.wu = false ∧ k.rxBlocked = false ∧ k.rxBits = 0 ∧ k.rdrf = false := by decide

theorem witness_WakeUp : ({ base.sci with wu := true }).wu = true ∧ base.sci.rxBits = 0 := by decide

theorem witness_TransmitterFrames :
    let k := { base.sci with te := true, tdre := false }
    (k.te = true ∧ k.txBits ≤ 1 ∧ k.txPreamble = 0 ∧ k.tdre = false) ∧
      (9 ≤ ({ k with txPreamble := 9 }).txPreamble) ∧ ({ k with tdre := true }).tdre = true ∧ base.sci.te = false := by
  decide

theorem witness_RamControl :
    (0x80 ≤ (0x0080#16).toNat ∧ (0x0080#16).toNat ≤ 0xFF) ∧ (0x80 ≤ (0x00FF#16).toNat ∧ (0x00FF#16).toNat ≤ 0xFF) := by
  decide

theorem witness_StepKeepsInvariant : atAdda.ok = true ∧ ∃ t, step atAdda = .next t ∧ (t.cpu.a == 0x13) = true :=
  ⟨by decide, of_after (by decide)⟩


end Sys2Proof.Tests
end

section
/-! PROOF. The branches, JMP and NOP (43_jump_branch): the operation of each shape, then the statements O24 and O25. -/

namespace Sys2Proof.Machine

/-! ### Addresses in integers -/

/-- A signed displacement added to a word is the sum modulo 65536 (R131). -/
theorem add_sext16 (p : Word) (rel : Byte) : p + sext16 rel = BitVec.ofInt 16 (p.toNat + rel.toInt) := by
  rw [BitVec.ofInt_add, BitVec.ofInt_natCast, BitVec.ofNat_toNat, BitVec.setWidth_eq]
  rfl

/-- An unsigned offset added to a word is the sum modulo 65536 (R130). -/
theorem add_zext16 (p : Word) (off : Byte) : p + zext16 off = BitVec.ofNat 16 (p.toNat + off.toNat) := by
  simp [zext16, BitVec.ofNat_add]

/-! ### The operation of each shape, its cycles over and the MPU registers replaced -/

/-- A state is itself with the MPU registers it has. -/
theorem State.with_cpu_of_eq {t : State} {c : Cpu} (h : t.cpu = c) : t = { t with cpu := c } := by rw [← h]

/-- Taken or not, a branch is one idle cycle and a new PC (R291, R458). -/
theorem branchIf_eq (cond : Bool) (rel : Byte) (s : State) :
    branchIf cond rel s =
      .next { s.busIdle with
        cpu := { s.cpu with pc := if cond = true then BitVec.ofInt 16 (s.cpu.pc.toNat + rel.toInt) else s.cpu.pc } } := by
  cases cond with
  | false => exact congrArg Host.Outcome.next (State.with_cpu_of_eq s.busIdle_cpu)
  | true => simp [branchIf, State.withPc, add_sext16]

/-- JMP is the cycles before an access to its operand, the access left out, and a new PC (R309). -/
theorem jumpTo_eq (o : Mem) (s : State) :
    jumpTo o s = .next { o.lead s with cpu := { s.cpu with pc := o.ea s } } := by
  rw [jumpTo, State.withPc, (o.lead_readsOnly s).cpu]

theorem inherent2_eq (f : Cpu → Cpu) (s : State) : inherent2 f s = .next { s.nextByte with cpu := f s.cpu } := by
  have hcpu : s.nextByte.cpu = s.cpu := State.busDiscard_cpu s s.cpu.pc
  rw [inherent2, hcpu]

/-- An instruction that is `inherent2 f` replaces the MPU registers by `f`; its one cycle left reads the byte at PC. -/
theorem Completes.of_inherent2 {i : Instr} {f : Cpu → Cpu} {s : State} (he : exec i s = inherent2 f s)
    (hc : cyclesLeft i = 1) : Completes i s (f s.cpu) [s.cpu.pc] := by
  refine Completes.intro (State.busDiscard_readsOnly s.cpu.pc s) (he.trans (inherent2_eq f s)) fun hq => ?_
  rw [hc]
  exact (TimeOnly.zero s).discard (hq s.cpu.pc (by simp))

/-! ### The sixteen branches (R292 to R307) -/

/-- The condition the model computes for each branch. -/
def Cond.holds (c : Cond) (f : Ccr) : Bool :=
  match c with
  | .ra => true
  | .rn => false
  | .hi => !(f.c || f.z)
  | .ls => f.c || f.z
  | .cc => !f.c
  | .cs => f.c
  | .ne => !f.z
  | .eq => f.z
  | .vc => !f.v
  | .vs => f.v
  | .pl => !f.n
  | .mi => f.n
  | .ge => !(f.n ^^ f.v)
  | .lt => f.n ^^ f.v
  | .gt => !(f.z || (f.n ^^ f.v))
  | .le => f.z || (f.n ^^ f.v)

theorem exec_branchInstr (c : Cond) (rel : Byte) (s : State) :
    exec (branchInstr c rel) s = branchIf (c.holds s.cpu.ccr) rel s := by
  cases c <;> rfl

theorem cyclesLeft_branchInstr (c : Cond) (rel : Byte) : cyclesLeft (branchInstr c rel) = 1 := by
  cases c <;> rfl

/-- The model's condition is that of R292 to R307: a truth table in the flags the branch looks at. -/
theorem Cond.holds_eq_condRef (c : Cond) (f : Ccr) : c.holds f = condRef c f := by
  obtain ⟨h, i, n, z, v, cf⟩ := f
  cases c with
  | ra | rn => rfl
  | hi | ls => cases cf <;> cases z <;> rfl
  | cc | cs => cases cf <;> rfl
  | ne | eq => cases z <;> rfl
  | vc | vs => cases v <;> rfl
  | pl | mi => cases n <;> rfl
  | ge | lt => cases n <;> cases v <;> rfl
  | gt | le => cases z <;> cases n <;> cases v <;> rfl

/-- Settles O24: every branch is the frame of R291 with its own condition, and that condition is the table's. -/
theorem branchesComplete : Obligations.BranchesComplete := by
  unfold Obligations.BranchesComplete
  intro c rel s
  have hexec := (exec_branchInstr c rel s).trans (branchIf_eq _ rel s)
  rw [c.holds_eq_condRef] at hexec
  refine Completes.intro (State.busIdle_readsOnly s) hexec fun _ => ?_
  rw [cyclesLeft_branchInstr]
  exact (TimeOnly.zero s).tick

/-! ### JMP and NOP (R309, R312) -/

theorem cyclesLeft_jmpInstr (o : Far) : cyclesLeft (jmpInstr o) = o.mem.leadCycles := by
  cases o <;> rfl

/-- JMP sets PC to the effective address and reads nothing on the way (R309). -/
theorem jmpInstr_completes (o : Far) (s : State) : Completes (jmpInstr o) s { s.cpu with pc := o.mem.ea s } [] := by
  refine Completes.intro (o.mem.lead_readsOnly s) ((exec_jmpInstr o s).trans (jumpTo_eq o.mem s)) fun _ => ?_
  rw [cyclesLeft_jmpInstr]
  exact o.mem.lead_time s

/-- Settles O25: JMP by its two operand forms, NOP as the inherent instruction that keeps the MPU registers. -/
theorem jumpsComplete : Obligations.JumpsComplete := by
  unfold Obligations.JumpsComplete
  intro s
  refine ⟨fun a => jmpInstr_completes (.ext a) s, fun off => ?_, Completes.of_inherent2 (f := id) rfl rfl⟩
  rw [← add_zext16]
  exact jmpInstr_completes (.idx off) s

end Sys2Proof.Machine
end


section
/-! PROOF. The condition codes (44_ccr): the integer a byte of flags is, then the statement O33. -/

namespace Sys2Proof.Machine

/-- A flag put below a word's bits doubles the word and adds the flag. -/
theorem toNat_append_ofBool {n : Nat} (x : BitVec n) (b : Bool) :
    (x ++ BitVec.ofBool b).toNat = 2 * x.toNat + b.toNat := by
  rw [Nat.mul_comm]
  exact BitVec.toNat_concat x b

/-- The bits of `pack8` weigh 128 to 1. -/
theorem pack8_toNat (b7 b6 b5 b4 b3 b2 b1 b0 : Bool) :
    (pack8 b7 b6 b5 b4 b3 b2 b1 b0).toNat =
      128 * b7.toNat + 64 * b6.toNat + 32 * b5.toNat + 16 * b4.toNat + 8 * b3.toNat + 4 * b2.toNat + 2 * b1.toNat +
        b0.toNat := by
  simp only [pack8, toNat_append_ofBool, BitVec.toNat_ofBool]
  omega

/-- The byte of the condition codes in integers: bits 7 and 6 read 1, below them stand H, I, N, Z, V, C (R27). -/
theorem Ccr.toByte_eq_ofNat (f : Ccr) :
    f.toByte = BitVec.ofNat 8 (192 + 32 * f.h.toNat + 16 * f.i.toNat + 8 * f.n.toNat + 4 * f.z.toNat +
      2 * f.v.toNat + f.c.toNat) := by
  have hnat := pack8_toNat true true f.h f.i f.n f.z f.v f.c
  rw [Bool.toNat_true] at hnat
  rw [← BitVec.setWidth_eq f.toByte, ← BitVec.ofNat_toNat, Ccr.toByte, hnat]

/-! ### The six instructions (R330, R332 to R335, R337) -/

theorem exec_clc (s : State) : exec .clc s = execClc s := rfl

theorem exec_clv (s : State) : exec .clv s = execClv s := rfl

theorem exec_sec (s : State) : exec .sec s = execSec s := rfl

theorem exec_sev (s : State) : exec .sev s = execSev s := rfl

theorem exec_sei (s : State) : exec .sei s = execSei s := rfl

theorem exec_tpa (s : State) : exec .tpa s = execTpa s := rfl

/-- Settles O33: all six are inherent instructions with one cycle after the fetch; TPA's byte is that of R27. -/
theorem conditionCodesComplete : Obligations.ConditionCodesComplete := by
  unfold Obligations.ConditionCodesComplete
  intro s
  rw [← s.cpu.ccr.toByte_eq_ofNat]
  exact ⟨.of_inherent2 (exec_clc s) rfl, .of_inherent2 (exec_clv s) rfl, .of_inherent2 (exec_sec s) rfl,
    .of_inherent2 (exec_sev s) rfl, .of_inherent2 (exec_sei s) rfl, .of_inherent2 (exec_tpa s) rfl⟩

end Sys2Proof.Machine
end


section
/-! PROOF. The exceptions (60_exceptions): the end of an interrupt entry, the wait, then the statement O41. -/

namespace Sys2Proof.Machine

/-! ### Time and 16-bit reads of memory -/

theorem State.ticks_readsOnly (n : Nat) (s : State) : ReadsOnly s (s.ticks n) :=
  ⟨by simp, ⟨by simp, by simp, by simp, by simp, by simp, by simp⟩, ⟨by simp, by simp⟩, by simp, by simp⟩

theorem ReadsOnly.peek16 {s t : State} (h : ReadsOnly s t) (a : Addr) : t.peek16 a = s.peek16 a := by
  rw [State.peek16, State.peek16, h.peek, h.peek]

/-- A 16-bit read of memory gives the two bytes there, high byte first (R80). -/
theorem State.busRead16_of_readable {s : State} {a : Addr} (h : s.readable a = true) (h1 : s.readable (a + 1) = true) :
    (s.busRead16 a).1 = s.peek16 a := by
  have hr := State.busRead_readsOnly a s
  have hlow : ((s.busRead a).2.busRead (a + 1)).1 = s.peek (a + 1) :=
    (State.busRead_of_readable ((hr.readable _).trans h1)).trans (hr.peek _)
  exact congrArg₂ join (State.busRead_of_readable h) hlow

/-! ### The end of an interrupt entry (R362) -/

/-- The state whose vector is read: I is set, NmiPending cleared if the source is NMI (R362). -/
def State.vectorStart (nmi : Bool) (s : State) : State :=
  { s.withCcr { s.cpu.ccr with i := true } with nmiPending := s.nmiPending && !nmi }

/-- The end of an entry reads the vector, puts it into PC and runs. -/
theorem State.vectorTo_eq (vector : Addr) (nmi : Bool) (s : State) :
    s.vectorTo vector nmi =
      { ((s.vectorStart nmi).busRead16 vector).2.withPc ((s.vectorStart nmi).busRead16 vector).1 with run := .running } :=
  rfl

theorem State.vectorTo_run (vector : Addr) (nmi : Bool) (s : State) : (s.vectorTo vector nmi).run = .running := rfl

/-- Of the MPU registers only I and PC change. -/
theorem State.vectorTo_cpu (vector : Addr) (nmi : Bool) (s : State) :
    (s.vectorTo vector nmi).cpu =
      { s.cpu with ccr := { s.cpu.ccr with i := true }, pc := (s.vectorTo vector nmi).cpu.pc } := by
  have hcpu := (State.busRead16_readsOnly vector (s.vectorStart nmi)).cpu
  rw [State.vectorTo_eq, State.withPc, hcpu]
  rfl

theorem State.vectorTo_memory (vector : Addr) (nmi : Bool) (s : State) : SameMemory s (s.vectorTo vector nmi) :=
  (State.busRead16_readsOnly vector (s.vectorStart nmi)).memory

theorem State.vectorTo_ports (vector : Addr) (nmi : Bool) (s : State) : SamePorts s (s.vectorTo vector nmi) :=
  (State.busRead16_readsOnly vector (s.vectorStart nmi)).ports

/-- A vector in memory is what PC becomes. -/
theorem State.vectorTo_pc {s : State} {vector : Addr} (h : s.readable vector = true)
    (h1 : s.readable (vector + 1) = true) (nmi : Bool) : (s.vectorTo vector nmi).cpu.pc = s.peek16 vector :=
  State.busRead16_of_readable (s := s.vectorStart nmi) h h1

/-! ### The wait (R366) -/

/-- With I set the arbitration finds nothing but an NMI (R29, R358). -/
theorem State.request_of_masked {s : State} (hi : s.cpu.ccr.i = true) (hn : s.nmiPending = false) :
    s.request = none := by
  have hm : s.masked = true := by rw [State.masked, hi, Bool.true_or]
  simp [State.request, hn, hm]

theorem step_of_waiting {s : State} (hw : s.run = .waiting) : step s = settle s s.stepWaiting := by
  rw [step, State.stepByRunState, hw]

/-- The state in which a request found in the wait has its vector read: nothing but time has passed, and a hold-off is
over. -/
def State.wakeStart (s : State) : State := State.ticks (Config.irqEntryCycles - 2) { s with irqHoldoff := false }

theorem State.wakeStart_readsOnly (s : State) : ReadsOnly { s with irqHoldoff := false } s.wakeStart :=
  State.ticks_readsOnly _ _

/-- Taken from the wait, a request goes to its vector without a stacking, so no stack address can stop it (R366). -/
theorem State.take_of_waiting {s : State} (hw : s.run = .waiting) (src : IrqSource) :
    s.take src = .next (s.wakeStart.vectorTo src.vector (src == .nmi)) := by
  have hstacked : (s.run == .waiting) = true := by rw [hw]; rfl
  rw [State.take, hstacked]
  rfl

/-- HALT high, a request that wins the arbitration is taken. -/
theorem step_waiting_of_request {s : State} {src : IrqSource} (hw : s.run = .waiting) (hh : s.pins.halt = true)
    (hreq : s.request = some src) :
    step s = settle s (.next (s.wakeStart.vectorTo src.vector (src == .nmi))) := by
  rw [step_of_waiting hw, ← State.take_of_waiting hw]
  simp [State.stepWaiting, hh, hreq]

/-- Without a request an E cycle passes in the wait. -/
theorem step_waiting_of_no_request {s : State} (hw : s.run = .waiting) (hreq : s.request = none) :
    step s = settle s (.next s.tick) := by
  rw [step_of_waiting hw]
  simp [State.stepWaiting, hreq]

/-- Settles O41: a request from the wait is time and the end of an entry; a masked one is no request to the arbitration. -/
theorem wakeFromWait : Obligations.WakeFromWait := by
  unfold Obligations.WakeFromWait
  intro s hw hh
  constructor
  · intro src hreq
    have hr := s.wakeStart_readsOnly
    have hmem : SameMemory s s.wakeStart := hr.memory
    have hports : SamePorts s s.wakeStart := hr.ports
    obtain ⟨hp, hrame⟩ := State.vectorTo_ports src.vector (src == .nmi) s.wakeStart
    refine ⟨_, step_waiting_of_request hw hh hreq, State.vectorTo_run _ _ _,
      hmem.trans (State.vectorTo_memory _ _ _), ⟨hp.trans hports.1, hrame.trans hports.2⟩, ?_, fun h h1 => ?_⟩
    · have hcpu : s.wakeStart.cpu = s.cpu := hr.cpu
      rw [← hcpu]
      exact State.vectorTo_cpu _ _ _
    · have hpc := State.vectorTo_pc ((hr.readable _).trans h) ((hr.readable _).trans h1) (src == .nmi)
      exact hpc.trans (hr.peek16 _)
  · intro hi hn
    exact ⟨s.tick, step_waiting_of_no_request hw (State.request_of_masked hi hn), s.tick_run.trans hw, s.tick_cpu⟩

end Sys2Proof.Machine
end


section
/-! PROOF. The E cycles of the instructions (R450): what each bus access, each shared operation and each instruction spends,
then the statement O35. -/

namespace Sys2Proof.Machine

/-! ### E cycles spent -/

/-- From `s` to `t` exactly `n` E cycles pass, unless RESET is seen on the way, after which none does (log 25). -/
def Spends (n : Nat) (s t : State) : Prop := t.resetSeen = false → s.resetSeen = false ∧ t.cycles = s.cycles + n

theorem Spends.refl (s : State) : Spends 0 s s := fun h => ⟨h, rfl⟩

/-- What changes neither the count of E cycles nor the note of a RESET costs no time. -/
theorem Spends.keep {n : Nat} {s t u : State} (h : Spends n s t) (hr : u.resetSeen = t.resetSeen)
    (hc : u.cycles = t.cycles) : Spends n s u := by
  unfold Spends
  rw [hr, hc]
  exact h

theorem Spends.tickWith {n : Nat} {s t : State} (h : Spends n s t) (p : Bool) : Spends (n + 1) s (t.tickWith p) := by
  intro hseen
  have ht := State.resetSeen_of_tickWith hseen
  obtain ⟨hs, hn⟩ := h ht
  refine ⟨hs, ?_⟩
  rw [State.tickWith_cycles ht, hn, Nat.add_assoc]

theorem Spends.withCpu {n : Nat} {s t : State} (h : Spends n s t) (c : Cpu) : Spends n s { t with cpu := c } :=
  h.keep rfl rfl

theorem Spends.withCcr {n : Nat} {s t : State} (h : Spends n s t) (f : Ccr) : Spends n s (t.withCcr f) := h.withCpu _

theorem Spends.withX {n : Nat} {s t : State} (h : Spends n s t) (v : Word) : Spends n s (t.withX v) := h.withCpu _

theorem Spends.withSp {n : Nat} {s t : State} (h : Spends n s t) (v : Word) : Spends n s (t.withSp v) := h.withCpu _

theorem Spends.withPc {n : Nat} {s t : State} (h : Spends n s t) (v : Word) : Spends n s (t.withPc v) := h.withCpu _

theorem Spends.withAcc {n : Nat} {s t : State} (h : Spends n s t) (r : Acc) (v : Byte) : Spends n s (t.withAcc r v) :=
  h.keep (t.withAcc_resetSeen r v) (t.withAcc_cycles r v)

theorem Spends.withReg16 {n : Nat} {s t : State} (h : Spends n s t) (r : Reg16) (v : Word) :
    Spends n s (t.withReg16 r v) :=
  h.keep (t.withReg16_resetSeen r v) (t.withReg16_cycles r v)

theorem Spends.withRun {n : Nat} {s t : State} (h : Spends n s t) (r : RunState) : Spends n s { t with run := r } :=
  h.keep rfl rfl

theorem Spends.withHoldoff {n : Nat} {s t : State} (h : Spends n s t) (b : Bool) :
    Spends n s { t with irqHoldoff := b } :=
  h.keep rfl rfl

/-! ### One bus access, one E cycle -/

theorem Spends.idle {n : Nat} {s t : State} (h : Spends n s t) : Spends (n + 1) s t.busIdle := h.tickWith false

theorem Spends.discard {n : Nat} {s t : State} (h : Spends n s t) (a : Addr) : Spends (n + 1) s (t.busDiscard a) :=
  (h.tickWith false).keep (State.readEffect_resetSeen _ a) (State.readEffect_cycles _ a)

theorem Spends.read {n : Nat} {s t : State} (h : Spends n s t) (a : Addr) : Spends (n + 1) s (t.busRead a).2 :=
  h.discard a

theorem Spends.write {n : Nat} {s t : State} (h : Spends n s t) (a : Addr) (v : Byte) :
    Spends (n + 1) s (t.busWrite a v) :=
  (h.tickWith _).keep (State.storeAt_resetSeen _ a v) (State.storeAt_cycles _ a v)

theorem Spends.read16 {n : Nat} {s t : State} (h : Spends n s t) (a : Addr) : Spends (n + 2) s (t.busRead16 a).2 :=
  (h.read a).read (a + 1)

theorem Spends.write16 {n : Nat} {s t : State} (h : Spends n s t) (a : Addr) (v : Word) :
    Spends (n + 2) s (t.busWrite16 a v) :=
  (h.write a (hi v)).write (a + 1) (lo v)

theorem Spends.idles {n : Nat} {s t : State} (h : Spends n s t) (m : Nat) : Spends (n + m) s (t.idles m) := by
  induction m generalizing n t with
  | zero => exact h
  | succ m ih =>
    have hrest := ih h.idle
    rwa [Nat.add_assoc, Nat.add_comm 1 m] at hrest

/-! ### Operands -/

theorem Mem.lead_spends (o : Mem) (s : State) : Spends o.leadCycles s (o.lead s) := by
  cases o with
  | dir _ | ext _ => exact .refl s
  | idx _ => exact (Spends.refl s).idle

theorem Mem.read8_spends (o : Mem) (s : State) : Spends (o.leadCycles + 1) s (o.read8 s).2 :=
  (o.lead_spends s).read (o.ea s)

theorem Src8.read_spends (o : Src8) (s : State) : Spends o.cycles s (o.read s).2 := by
  cases o with
  | imm _ => exact .refl s
  | mem e => exact e.read8_spends s

theorem Src16.read_spends (o : Src16) (s : State) : Spends o.cycles s (o.read s).2 := by
  cases o with
  | imm _ => exact .refl s
  | mem e => exact (e.lead_spends s).read16 (e.ea s)

/-! ### The stack and the exceptions -/

theorem Spends.push8 {n : Nat} {s t : State} (h : Spends n s t) (v : Byte) : Spends (n + 1) s (t.push8 v) :=
  (h.write t.cpu.sp v).withSp _

theorem Spends.push16 {n : Nat} {s t : State} (h : Spends n s t) (v : Word) : Spends (n + 2) s (t.push16 v) :=
  (h.push8 (lo v)).push8 (hi v)

theorem Spends.pull8 {n : Nat} {s t : State} (h : Spends n s t) : Spends (n + 1) s t.pull8.2 :=
  (h.withSp (t.cpu.sp + 1)).read (t.cpu.sp + 1)

theorem Spends.pull16 {n : Nat} {s t : State} (h : Spends n s t) : Spends (n + 2) s t.pull16.2 := h.pull8.pull8

/-- The stacking of an interrupt is seven writes (R362). -/
theorem Spends.pushFrame {n : Nat} {s t : State} (h : Spends n s t) : Spends (n + 7) s t.pushFrame :=
  ((((h.push16 _).push16 _).push8 _).push8 _).push8 _

/-- RTI's pulls are seven reads (R313). -/
theorem Spends.pullFrame {n : Nat} {s t : State} (h : Spends n s t) : Spends (n + 7) s t.pullFrame :=
  h.pull8.pull8.pull8.pull16.pull16.withCpu _

theorem Spends.vectorTo {n : Nat} {s t : State} (h : Spends n s t) (vector : Addr) (nmi : Bool) :
    Spends (n + 2) s (t.vectorTo vector nmi) :=
  have hstart : Spends n s (t.vectorStart nmi) := h.keep rfl rfl
  ((hstart.read16 vector).withPc _).withRun _

/-- An exception not yet stacked: seven writes, a discarded read, the two bytes of the vector (R459 (a)). -/
theorem Spends.takeException {n : Nat} {s t : State} (h : Spends n s t) (vector : Addr) (nmi : Bool) :
    Spends (n + 10) s (t.takeException false vector nmi) :=
  (h.pushFrame.discard _).vectorTo vector nmi

theorem State.nextByte_spends (s : State) : Spends 1 s s.nextByte := (Spends.refl s).discard s.cpu.pc

theorem State.beforePull_spends (s : State) : Spends 2 s s.beforePull := s.nextByte_spends.discard s.cpu.sp

/-! ### One operation for each shape of instruction -/

/-- The answer `r`, where it is a state, stands `n` E cycles after `s`. -/
def Takes (s : State) (r : Result) (n : Nat) : Prop := ∀ t, r = .next t → Spends n s t

theorem Takes.next {n : Nat} {s t : State} (h : Spends n s t) : Takes s (.next t) n := by
  rintro _ ⟨⟩
  exact h

theorem Takes.guardBus {n : Nat} {s t : State} {as : List Addr} (h : Spends n s t) : Takes s (guardBus as t) n := by
  intro u hu
  obtain ⟨_, rfl⟩ := guardBus_eq_next.1 hu
  exact h

theorem inherent2_takes (f : Cpu → Cpu) (s : State) : Takes s (inherent2 f s) 1 :=
  .next (s.nextByte_spends.withCpu _)

theorem inherent3_takes (f : Cpu → Cpu) (s : State) : Takes s (inherent3 f s) 2 :=
  .next (s.nextByte_spends.idle.withCpu _)

theorem inherentSp_takes (f : Cpu → Cpu) (s : State) : Takes s (inherentSp f s) 2 :=
  .next (s.beforePull_spends.withCpu _)

theorem accBinary_takes (op : Ccr → Byte → Byte → Byte × Ccr) (r : Acc) (o : Src8) (s : State) :
    Takes s (accBinary op r o s) o.cycles :=
  .guardBus (((o.read_spends s).withAcc _ _).withCcr _)

theorem accCompare_takes (op : Ccr → Byte → Byte → Byte × Ccr) (r : Acc) (o : Src8) (s : State) :
    Takes s (accCompare op r o s) o.cycles :=
  .guardBus ((o.read_spends s).withCcr _)

theorem accUnary_takes (op : Ccr → Byte → Byte × Ccr) (r : Acc) (s : State) : Takes s (accUnary op r s) 1 :=
  .next ((s.nextByte_spends.withAcc _ _).withCcr _)

theorem memUnary_takes (op : Ccr → Byte → Byte × Ccr) (o : Mem) (s : State) :
    Takes s (memUnary op o s) (o.leadCycles + 3) :=
  .guardBus (((o.read8_spends s).idle.write _ _).withCcr _)

theorem memTest_takes (o : Mem) (s : State) : Takes s (memTest o s) (o.leadCycles + 3) :=
  .guardBus ((o.read8_spends s).idle.idle.withCcr _)

theorem storeAcc_takes (r : Acc) (o : Mem) (s : State) : Takes s (storeAcc r o s) (o.leadCycles + 1) :=
  .guardBus (((o.lead_spends s).write _ _).withCcr _)

theorem storeReg16_takes (r : Reg16) (o : Mem) (s : State) : Takes s (storeReg16 r o s) (o.leadCycles + 2) :=
  .guardBus (((o.lead_spends s).write16 _ _).withCcr _)

theorem loadReg16_takes (r : Reg16) (o : Src16) (s : State) : Takes s (loadReg16 r o s) o.cycles :=
  .guardBus (((o.read_spends s).withReg16 _ _).withCcr _)

theorem dBinary_takes (op : Ccr → Word → Word → Word × Ccr) (o : Src16) (s : State) :
    Takes s (dBinary op o s) (o.cycles + 1) :=
  .guardBus (((o.read_spends s).idle.withReg16 _ _).withCcr _)

theorem compareX_takes (o : Src16) (s : State) : Takes s (compareX o s) (o.cycles + 1) :=
  .guardBus ((o.read_spends s).idle.withCcr _)

theorem branchIf_takes (cond : Bool) (rel : Byte) (s : State) : Takes s (branchIf cond rel s) 1 := by
  rw [branchIf_eq]
  exact .next ((Spends.refl s).idle.withCpu _)

theorem jumpTo_takes (o : Mem) (s : State) : Takes s (jumpTo o s) o.leadCycles :=
  .next ((o.lead_spends s).withPc _)

/-- A call is a discarded read and two writes after the cycles that lead to it (R308, R310). -/
theorem callTo_takes {n : Nat} {s t : State} (h : Spends n s t) (target : Addr) :
    Takes s (callTo target t) (n + 3) :=
  .guardBus (((h.discard target).push16 _).withPc _)

/-! ### The instructions with a meaning of their own -/

/-- LSRD and ASLD replace D and the flags after an idle cycle. -/
theorem shiftD_takes (v : Word) (f : Ccr) (s : State) :
    Takes s (.next ((s.nextByte.busIdle.withReg16 .d v).withCcr f)) 2 :=
  .next ((s.nextByte_spends.idle.withReg16 _ _).withCcr _)

theorem execDaa_takes (s : State) : Takes s (execDaa s) 1 :=
  .next ((s.nextByte_spends.withAcc _ _).withCcr _)

theorem execTap_takes (s : State) : Takes s (execTap s) 1 :=
  .next ((s.nextByte_spends.withCcr _).withHoldoff _)

theorem execCli_takes (s : State) : Takes s (execCli s) 1 :=
  .next ((s.nextByte_spends.withCcr _).withHoldoff _)

theorem execMul_takes (s : State) : Takes s (execMul s) 9 :=
  .next (((s.nextByte_spends.idles 8).withReg16 _ _).withCcr _)

/-- PULA and PULB. -/
theorem pullAcc_takes (r : Acc) (s : State) :
    Takes s (guardBus [s.cpu.sp + 1] (s.beforePull.pull8.2.withAcc r s.beforePull.pull8.1)) 3 :=
  .guardBus (s.beforePull_spends.pull8.withAcc _ _)

theorem execPulx_takes (s : State) : Takes s (execPulx s) 4 :=
  .guardBus (s.beforePull_spends.pull16.withX _)

theorem execRts_takes (s : State) : Takes s (execRts s) 4 :=
  .guardBus (s.beforePull_spends.pull16.withPc _)

/-- PSHA and PSHB. -/
theorem pushByte_takes (v : Byte) (s : State) : Takes s (guardBus [s.cpu.sp] (s.nextByte.push8 v)) 2 :=
  .guardBus (s.nextByte_spends.push8 _)

theorem execPshx_takes (s : State) : Takes s (execPshx s) 3 := .guardBus (s.nextByte_spends.push16 _)

theorem execRti_takes (s : State) : Takes s (execRti s) 9 := .guardBus s.beforePull_spends.pullFrame

theorem execWai_takes (s : State) : Takes s (execWai s) 8 :=
  .guardBus (s.nextByte_spends.pushFrame.withRun _)

theorem execSwi_takes (s : State) : Takes s (execSwi s) 11 :=
  .guardBus (s.nextByte_spends.takeException 0xFFFA false)

/-! ### Every instruction -/

/-- By the shape of the instruction: the cycles its operation spends are, with the fetches, those of R450, the table
read at the opcode. -/
theorem exec_takes (i : Instr) (s : State) (h4 : i ≠ .test4E) (h5 : i ≠ .test5E) :
    ∃ n, Takes s (exec i s) n ∧ instrBytes i + n = instrCycles i := by
  unfold exec
  cases i with
  | test4E => exact absurd rfl h4
  | test5E => exact absurd rfl h5
  | nop | tpa | clv | sev | clc | sec | sei | sba | cba | tab | tba | aba | tsta | tstb =>
    exact ⟨_, inherent2_takes _ s, rfl⟩
  | inx | dex | txs | abx => exact ⟨_, inherent3_takes _ s, rfl⟩
  | tsx | ins | des => exact ⟨_, inherentSp_takes _ s, rfl⟩
  | lsrd | asld => exact ⟨_, shiftD_takes _ _ s, rfl⟩
  | tap => exact ⟨_, execTap_takes s, rfl⟩
  | cli => exact ⟨_, execCli_takes s, rfl⟩
  | daa => exact ⟨_, execDaa_takes s, rfl⟩
  | mul => exact ⟨_, execMul_takes s, rfl⟩
  | pula | pulb => exact ⟨_, pullAcc_takes _ s, rfl⟩
  | psha | pshb => exact ⟨_, pushByte_takes _ s, rfl⟩
  | pulx => exact ⟨_, execPulx_takes s, rfl⟩
  | pshx => exact ⟨_, execPshx_takes s, rfl⟩
  | rts => exact ⟨_, execRts_takes s, rfl⟩
  | rti => exact ⟨_, execRti_takes s, rfl⟩
  | wai => exact ⟨_, execWai_takes s, rfl⟩
  | swi => exact ⟨_, execSwi_takes s, rfl⟩
  | bra | brn | bhi | bls | bcc | bcs | bne | beq | bvc | bvs | bpl | bmi | bge | blt | bgt | ble =>
    exact ⟨_, branchIf_takes _ _ s, rfl⟩
  | jmpIdx | jmpExt => exact ⟨_, jumpTo_takes _ s, rfl⟩
  | jsrDir | jsrExt => exact ⟨_, callTo_takes (.refl s) _, rfl⟩
  | bsr | jsrIdx => exact ⟨_, callTo_takes (Spends.refl s).idle _, rfl⟩
  | nega | coma | lsra | rora | asra | asla | rola | deca | inca | clra
  | negb | comb | lsrb | rorb | asrb | aslb | rolb | decb | incb | clrb =>
    exact ⟨_, accUnary_takes _ _ s, rfl⟩
  | negIdx | comIdx | lsrIdx | rorIdx | asrIdx | aslIdx | rolIdx | decIdx | incIdx | clrIdx
  | negExt | comExt | lsrExt | rorExt | asrExt | aslExt | rolExt | decExt | incExt | clrExt =>
    exact ⟨_, memUnary_takes _ _ s, rfl⟩
  | tstIdx | tstExt => exact ⟨_, memTest_takes _ s, rfl⟩
  | subaImm | sbcaImm | andaImm | ldaaImm | eoraImm | adcaImm | oraaImm | addaImm
  | subaDir | sbcaDir | andaDir | ldaaDir | eoraDir | adcaDir | oraaDir | addaDir
  | subaIdx | sbcaIdx | andaIdx | ldaaIdx | eoraIdx | adcaIdx | oraaIdx | addaIdx
  | subaExt | sbcaExt | andaExt | ldaaExt | eoraExt | adcaExt | oraaExt | addaExt
  | subbImm | sbcbImm | andbImm | ldabImm | eorbImm | adcbImm | orabImm | addbImm
  | subbDir | sbcbDir | andbDir | ldabDir | eorbDir | adcbDir | orabDir | addbDir
  | subbIdx | sbcbIdx | andbIdx | ldabIdx | eorbIdx | adcbIdx | orabIdx | addbIdx
  | subbExt | sbcbExt | andbExt | ldabExt | eorbExt | adcbExt | orabExt | addbExt =>
    exact ⟨_, accBinary_takes _ _ _ s, rfl⟩
  | cmpaImm | cmpaDir | cmpaIdx | cmpaExt | cmpbImm | cmpbDir | cmpbIdx | cmpbExt
  | bitaImm | bitaDir | bitaIdx | bitaExt | bitbImm | bitbDir | bitbIdx | bitbExt =>
    exact ⟨_, accCompare_takes _ _ _ s, rfl⟩
  | staaDir | staaIdx | staaExt | stabDir | stabIdx | stabExt => exact ⟨_, storeAcc_takes _ _ s, rfl⟩
  | subdImm | subdDir | subdIdx | subdExt | adddImm | adddDir | adddIdx | adddExt =>
    exact ⟨_, dBinary_takes _ _ s, rfl⟩
  | cpxImm | cpxDir | cpxIdx | cpxExt => exact ⟨_, compareX_takes _ s, rfl⟩
  | ldsImm | ldsDir | ldsIdx | ldsExt | ldxImm | ldxDir | ldxIdx | ldxExt | lddImm | lddDir | lddIdx | lddExt =>
    exact ⟨_, loadReg16_takes _ _ s, rfl⟩
  | stsDir | stsIdx | stsExt | stxDir | stxIdx | stxExt | stdDir | stdIdx | stdExt =>
    exact ⟨_, storeReg16_takes _ _ s, rfl⟩

/-- Settles O35: what the meaning spends and what the fetches spend are together the table's cycles. -/
theorem cycleCounts : Obligations.CycleCounts := by
  unfold Obligations.CycleCounts
  intro i s t h4 h5 hexec hseen
  obtain ⟨n, htakes, htable⟩ := exec_takes i s h4 h5
  obtain ⟨_, hcycles⟩ := htakes t hexec hseen
  omega

end Sys2Proof.Machine
end


section
/-! PROOF. The encoding (30_encoding): what a first byte asks for and what the encoder writes, then the statements O1 to O4. -/

namespace Sys2Proof

/-! ### The decoder, by the form of the first byte -/

/-- The instruction a form gives on the bytes after the first; a form that asks for fewer ignores the others. -/
def Form.apply (F : Form) (b1 b2 : Byte) : Instr :=
  match F with
  | .one i => i
  | .two f => f b1
  | .three f => f b1 b2

/-- The bytes a form takes, the first one among them. -/
def Form.size (F : Form) : Nat :=
  match F with
  | .one _ => 1
  | .two _ => 2
  | .three _ => 3

theorem decode_cons_of_none {op : Byte} (h : opcodeForm op = none) (rest : List Byte) :
    decode (op :: rest) = .error (.unassigned op) := by
  simp only [decode, h]

theorem decode_one {op : Byte} {i : Instr} (h : opcodeForm op = some (.one i)) (rest : List Byte) :
    decode (op :: rest) = .ok (i, rest) := by
  simp only [decode, h]

theorem decode_two {op : Byte} {f : Byte → Instr} (h : opcodeForm op = some (.two f)) (b : Byte) (rest : List Byte) :
    decode (op :: b :: rest) = .ok (f b, rest) := by
  simp only [decode, h]

theorem decode_three {op : Byte} {f : Byte → Byte → Instr} (h : opcodeForm op = some (.three f)) (b1 b2 : Byte)
    (rest : List Byte) : decode (op :: b1 :: b2 :: rest) = .ok (f b1 b2, rest) := by
  simp only [decode, h]

/-- A form whose two operand bytes are one word gives the instruction with that word. -/
theorem decode_word {op : Byte} {g : Word → Instr} (h : opcodeForm op = some (.three fun b1 b2 => g (join b1 b2)))
    (w : Word) (rest : List Byte) : decode (op :: hi w :: lo w :: rest) = .ok (g w, rest) := by
  rw [decode_three h, join_hi_lo]

/-- What decodes has an assigned first byte, and the instruction is its form's on the bytes that follow. -/
theorem decode_eq_ok {bs : List Byte} {i : Instr} {rest : List Byte} (h : decode bs = .ok (i, rest)) :
    ∃ op F b1 b2, opcodeForm op = some F ∧ i = F.apply b1 b2 ∧ bs = [op, b1, b2].take F.size ++ rest := by
  cases bs with
  | nil => cases h
  | cons op tail =>
    cases hF : opcodeForm op with
    | none => rw [decode_cons_of_none hF] at h; cases h
    | some F =>
      cases F with
      | one j =>
        rw [decode_one hF] at h
        cases h
        exact ⟨op, _, 0, 0, hF, rfl, rfl⟩
      | two f =>
        cases tail with
        | nil => simp only [decode, hF] at h; cases h
        | cons b tail =>
          rw [decode_two hF] at h
          cases h
          exact ⟨op, .two f, b, 0, hF, rfl, rfl⟩
      | three f =>
        rcases tail with _ | ⟨b1, _ | ⟨b2, tail⟩⟩
        · simp only [decode, hF] at h; cases h
        · simp only [decode, hF] at h; cases h
        · rw [decode_three hF] at h
          cases h
          exact ⟨op, .three f, b1, b2, hF, rfl, rfl⟩

/-! ### The encoder -/

/-- Row by row of the map of R124: what a form gives is encoded by its first byte and the operand bytes it took. -/
theorem encode_apply (op : Byte) {F : Form} (h : opcodeForm op = some F) (b1 b2 : Byte) :
    encode (F.apply b1 b2) = [op, b1, b2].take F.size := by
  obtain ⟨n, hn, rfl⟩ : ∃ n < 256, op = BitVec.ofNat 8 n := ⟨op.toNat, op.isLt, by simp⟩
  interval_cases n <;>
  · have h' := h
    dsimp only [opcodeForm] at h'
    cases h' <;> simp [Form.apply, Form.size, encode]

/-- The encoder writes as many bytes as the columns of the map ask for (R122). -/
theorem wellFormedBytes_encode (i : Instr) : wellFormedBytes (encode i) = true := by
  cases i <;> rfl

/-! ### The statements -/

/-- Settles O1: each word by the form of its first byte. -/
theorem sampleWordsDecode : Obligations.SampleWordsDecode :=
  ⟨decode_two rfl 0x80 [], decode_one rfl [], decode_word rfl 0x2001 [], decode_two rfl 0x05 [],
    decode_two rfl 0xFF [0x01#8], decode_two rfl 0xF6 [], decode_one rfl [], decode_one rfl [], decode_one rfl []⟩

/-- Settles O2: by the format of the instruction, the first byte the encoder writes asks for the operand bytes it writes. -/
theorem decodeEncode : Obligations.DecodeEncode := by
  unfold Obligations.DecodeEncode
  intro i rest
  cases i with
  | nop | lsrd | asld | tap | tpa | inx | dex | clv | sev | clc | sec | cli | sei | sba | cba | tab | tba | daa | aba
  | tsx | ins | pula | pulb | des | txs | psha | pshb | pulx | rts | abx | rti | pshx | mul | wai | swi | nega | coma
  | lsra | rora | asra | asla | rola | deca | inca | tsta | test4E | clra | negb | comb | lsrb | rorb | asrb | aslb
  | rolb | decb | incb | tstb | test5E | clrb =>
    exact decode_one rfl rest
  | bra | brn | bhi | bls | bcc | bcs | bne | beq | bvc | bvs | bpl | bmi | bge | blt | bgt | ble | negIdx | comIdx
  | lsrIdx | rorIdx | asrIdx | aslIdx | rolIdx | decIdx | incIdx | tstIdx | jmpIdx | clrIdx | subaImm | cmpaImm
  | sbcaImm | andaImm | bitaImm | ldaaImm | eoraImm | adcaImm | oraaImm | addaImm | bsr | subaDir | cmpaDir | sbcaDir
  | subdDir | andaDir | bitaDir | ldaaDir | staaDir | eoraDir | adcaDir | oraaDir | addaDir | cpxDir | jsrDir | ldsDir
  | stsDir | subaIdx | cmpaIdx | sbcaIdx | subdIdx | andaIdx | bitaIdx | ldaaIdx | staaIdx | eoraIdx | adcaIdx
  | oraaIdx | addaIdx | cpxIdx | jsrIdx | ldsIdx | stsIdx | subbImm | cmpbImm | sbcbImm | andbImm | bitbImm | ldabImm
  | eorbImm | adcbImm | orabImm | addbImm | subbDir | cmpbDir | sbcbDir | adddDir | andbDir | bitbDir | ldabDir
  | stabDir | eorbDir | adcbDir | orabDir | addbDir | lddDir | stdDir | ldxDir | stxDir | subbIdx | cmpbIdx | sbcbIdx
  | adddIdx | andbIdx | bitbIdx | ldabIdx | stabIdx | eorbIdx | adcbIdx | orabIdx | addbIdx | lddIdx | stdIdx | ldxIdx
  | stxIdx =>
    exact decode_two rfl _ rest
  | negExt | comExt | lsrExt | rorExt | asrExt | aslExt | rolExt | decExt | incExt | tstExt | jmpExt | clrExt
  | subdImm | cpxImm | ldsImm | subaExt | cmpaExt | sbcaExt | subdExt | andaExt | bitaExt | ldaaExt | staaExt
  | eoraExt | adcaExt | oraaExt | addaExt | cpxExt | jsrExt | ldsExt | stsExt | adddImm | lddImm | ldxImm | subbExt
  | cmpbExt | sbcbExt | adddExt | andbExt | bitbExt | ldabExt | stabExt | eorbExt | adcbExt | orabExt | addbExt
  | lddExt | stdExt | ldxExt | stxExt =>
    exact decode_word rfl _ rest

/-- Settles O3: what decodes is its form's instruction, whose encoding is the first byte and the operand bytes taken. -/
theorem decodeOnlyEncodings : Obligations.DecodeOnlyEncodings := by
  unfold Obligations.DecodeOnlyEncodings
  intro bs i rest h
  obtain ⟨op, F, b1, b2, hF, rfl, rfl⟩ := decode_eq_ok h
  exact ⟨by rw [encode_apply op hF], wellFormedBytes_encode _⟩

/-- The map of R124 has no row for exactly the bytes R125 lists. -/
theorem isNone_opcodeForm (op : Byte) : (opcodeForm op).isNone = decide (op.toNat ∈ unassignedOpcodes) := by
  obtain ⟨n, hn, rfl⟩ : ∃ n < 256, op = BitVec.ofNat 8 n := ⟨op.toNat, op.isLt, by simp⟩
  interval_cases n <;> rfl

/-- Settles O4: an unlisted byte has a form, and two operand bytes are enough for every form. -/
theorem firstBytes : Obligations.FirstBytes := by
  unfold Obligations.FirstBytes
  intro op b1 b2 rest
  have hiff := isNone_opcodeForm op
  refine ⟨fun hmem => decode_cons_of_none ?_ rest, fun hmem => ?_, rfl, by decide⟩
  · rwa [decide_eq_true hmem, Option.isNone_iff_eq_none] at hiff
  · rw [decide_eq_false hmem, Option.isNone_eq_false_iff, Option.isSome_iff_exists] at hiff
    obtain ⟨F, hF⟩ := hiff
    cases F with
    | one i => exact ⟨_, _, decode_one hF _⟩
    | two f => exact ⟨_, _, decode_two hF b1 _⟩
    | three f => exact ⟨_, _, decode_three hF b1 b2 _⟩

end Sys2Proof
end


section
/-! PROOF. The arithmetic in integers (41_arithmetic, 42_logic_shift_move): each operation of the model on bytes and words
gives the result and the flags that the statements write with `Nat` and `Int`. -/

namespace Sys2Proof.Machine

/-! ### Bits, bytes and words as numbers -/

theorem getLsbD_eq_decide {w : Nat} (x : BitVec w) (i : Nat) : x.getLsbD i = decide (x.toNat / 2 ^ i % 2 = 1) := by
  rw [BitVec.getLsbD, Nat.testBit_eq_decide_div_mod_eq]

theorem toInt_byte (r : Byte) : r.toInt = if 128 ≤ r.toNat then (r.toNat : Int) - 256 else r.toNat := by
  rw [BitVec.toInt_eq_toNat_cond]
  split <;> split <;> omega

theorem toInt_word (r : Word) : r.toInt = if 32768 ≤ r.toNat then (r.toNat : Int) - 65536 else r.toNat := by
  rw [BitVec.toInt_eq_toNat_cond]
  split <;> split <;> omega

theorem hi_eq_ofNat (w : Word) : hi w = BitVec.ofNat 8 (w.toNat / 256) := by
  rw [← toNat_hi, BitVec.ofNat_toNat, BitVec.setWidth_eq]

theorem lo_eq_ofNat (w : Word) : lo w = BitVec.ofNat 8 (w.toNat % 256) := by
  rw [← toNat_lo, BitVec.ofNat_toNat, BitVec.setWidth_eq]

theorem carryIn_toNat {w : Nat} (hw : 0 < w) (c : Bool) : (carryIn w c).toNat = c.toNat := by
  have hc : c.toNat < 2 ^ w := Nat.lt_of_le_of_lt (Bool.toNat_le c) (Nat.one_lt_two_pow hw.ne')
  rw [carryIn, BitVec.toNat_setWidth, BitVec.toNat_ofBool, Nat.mod_eq_of_lt hc]

/-! ### N and Z (R12) -/

theorem nz8_eq (f : Ccr) (r : Byte) : nz8 f r = signZero8 f r := by
  have hz : (r == 0x00#8) = decide (r.toNat = 0) := by rw [Bool.eq_iff_iff]; simp [← BitVec.toNat_inj]
  rw [nz8, signZero8, BitVec.msb_eq_toInt, hz]

theorem nz16_eq (f : Ccr) (r : Word) : nz16 f r = signZero16 f r := by
  have hz : (r == 0x0000#16) = decide (r.toNat = 0) := by rw [Bool.eq_iff_iff]; simp [← BitVec.toNat_inj]
  rw [nz16, signZero16, BitVec.msb_eq_toInt, hz]

theorem moveFlags8_eq (f : Ccr) (r : Byte) : moveFlags8 f r = moveRef8 f r := by
  rw [moveFlags8, nz8_eq, moveRef8]

theorem moveFlags16_eq (f : Ccr) (r : Word) : moveFlags16 f r = moveRef16 f r := by
  rw [moveFlags16, nz16_eq, moveRef16]

theorem tstFlags_eq (f : Ccr) (r : Byte) : tstFlags f r = { moveRef8 f r with c := false } := by
  rw [tstFlags, nz8_eq, moveRef8]

/-- V after a shift, N xor C, is their difference (R230). -/
theorem shiftFlags8_eq (f : Ccr) (r : Byte) (out : Bool) : shiftFlags8 f r out = shiftRef8 f r out := by
  rw [shiftFlags8, nz8_eq, shiftRef8, BitVec.msb_eq_toInt]

theorem shiftFlags16_eq (f : Ccr) (r : Word) (out : Bool) : shiftFlags16 f r out = shiftRef16 f r out := by
  rw [shiftFlags16, nz16_eq, shiftRef16, BitVec.msb_eq_toInt]

/-! ### V: a sum or difference of signed numbers does not fit -/

theorem overflow_sum8 (a m : Byte) (c : Bool) :
    (a.msb == m.msb && (sum8 a m c).msb != a.msb) = !fits8 (a.toInt + m.toInt + c.toNat) := by
  have ha := a.isLt
  have hm := m.isLt
  have hc := Bool.toNat_le c
  rw [Bool.eq_iff_iff]
  simp only [BitVec.msb_eq_decide, fits8, sum8, toInt_byte, BitVec.toNat_ofNat, Bool.and_eq_true, beq_iff_eq, bne_iff_ne,
    Bool.not_eq_true', decide_eq_false_iff_not, decide_eq_decide, ne_eq, Nat.reduceSub, Nat.reducePow]
  omega

theorem overflow_diff8 (a m : Byte) (c : Bool) :
    (a.msb != m.msb && (diff8 a m c).msb != a.msb) = !fits8 (a.toInt - m.toInt - c.toNat) := by
  have ha := a.isLt
  have hm := m.isLt
  have hc := Bool.toNat_le c
  rw [Bool.eq_iff_iff]
  simp only [BitVec.msb_eq_decide, fits8, diff8, toInt_byte, BitVec.toNat_ofInt, Bool.and_eq_true, bne_iff_ne,
    Bool.not_eq_true', decide_eq_false_iff_not, decide_eq_decide, ne_eq, Nat.reduceSub, Nat.reducePow]
  omega

theorem overflow_sum16 (a m : Word) :
    (a.msb == m.msb && (sum16 a m).msb != a.msb) = !fits16 (a.toInt + m.toInt) := by
  have ha := a.isLt
  have hm := m.isLt
  rw [Bool.eq_iff_iff]
  simp only [BitVec.msb_eq_decide, fits16, sum16, toInt_word, BitVec.toNat_ofNat, Bool.and_eq_true, beq_iff_eq, bne_iff_ne,
    Bool.not_eq_true', decide_eq_false_iff_not, decide_eq_decide, ne_eq, Nat.reduceSub, Nat.reducePow]
  omega

theorem overflow_diff16 (a m : Word) :
    (a.msb != m.msb && (diff16 a m).msb != a.msb) = !fits16 (a.toInt - m.toInt) := by
  have ha := a.isLt
  have hm := m.isLt
  rw [Bool.eq_iff_iff]
  simp only [BitVec.msb_eq_decide, fits16, diff16, toInt_word, BitVec.toNat_ofInt, Bool.and_eq_true, bne_iff_ne,
    Bool.not_eq_true', decide_eq_false_iff_not, decide_eq_decide, ne_eq, Nat.reduceSub, Nat.reducePow]
  omega

/-! ### Sums and differences (R9 to R11) -/

/-- Add8 of R9, in integers: the nine-bit sum holds the result and C, the five-bit one of the low halves holds H. -/
theorem add8_eq (f : Ccr) (a m : Byte) (c : Bool) : add8 f a m c = (sum8 a m c, sumFlags8 f a m c) := by
  have ha := a.isLt
  have hm := m.isLt
  have hc := Bool.toNat_le c
  have hsum : (a.setWidth 9 + m.setWidth 9 + carryIn 9 c).toNat = a.toNat + m.toNat + c.toNat := by
    simp only [BitVec.toNat_add, BitVec.toNat_setWidth, carryIn_toNat (w := 9) (by omega)]
    omega
  have hhalf : ((a.extractLsb' 0 4).setWidth 5 + (m.extractLsb' 0 4).setWidth 5 + carryIn 5 c).toNat =
      a.toNat % 16 + m.toNat % 16 + c.toNat := by
    simp only [BitVec.toNat_add, BitVec.toNat_setWidth, BitVec.extractLsb'_toNat, carryIn_toNat (w := 5) (by omega),
      Nat.shiftRight_zero]
    omega
  have hres : (a.setWidth 9 + m.setWidth 9 + carryIn 9 c).setWidth 8 = sum8 a m c := by
    apply BitVec.eq_of_toNat_eq
    rw [BitVec.toNat_setWidth, hsum, sum8, BitVec.toNat_ofNat]
  have hcarry : decide ((a.toNat + m.toNat + c.toNat) / 2 ^ 8 % 2 = 1) = decide (256 ≤ a.toNat + m.toNat + c.toNat) :=
    decide_eq_decide.2 (by omega)
  have hhcarry : decide ((a.toNat % 16 + m.toNat % 16 + c.toNat) / 2 ^ 4 % 2 = 1) =
      decide (16 ≤ a.toNat % 16 + m.toNat % 16 + c.toNat) := decide_eq_decide.2 (by omega)
  simp only [add8, sumFlags8, hres, nz8_eq, overflow_sum8, getLsbD_eq_decide, hsum, hhalf, hcarry, hhcarry]

/-- Sub8 of R10, in integers. -/
theorem sub8_eq (f : Ccr) (a m : Byte) (c : Bool) : sub8 f a m c = (diff8 a m c, diffFlags8 f a m c) := by
  have ha := a.isLt
  have hm := m.isLt
  have hc := Bool.toNat_le c
  have hres : a - m - carryIn 8 c = diff8 a m c := by
    apply BitVec.eq_of_toNat_eq
    simp only [diff8, BitVec.toNat_sub, BitVec.toNat_ofInt, carryIn_toNat (w := 8) (by omega)]
    omega
  have hborrow : decide (a.setWidth 9 < m.setWidth 9 + carryIn 9 c) = decide (a.toNat < m.toNat + c.toNat) := by
    simp only [BitVec.lt_def, BitVec.toNat_add, BitVec.toNat_setWidth, carryIn_toNat (w := 9) (by omega)]
    exact decide_eq_decide.2 (by omega)
  simp only [sub8, diffFlags8, hres, nz8_eq, overflow_diff8, hborrow]

/-- Add16 of R11, in integers. -/
theorem add16_eq (f : Ccr) (a m : Word) : add16 f a m = (sum16 a m, sumFlags16 f a m) := by
  have ha := a.isLt
  have hm := m.isLt
  have hsum : (a.setWidth 17 + m.setWidth 17).toNat = a.toNat + m.toNat := by
    simp only [BitVec.toNat_add, BitVec.toNat_setWidth]
    omega
  have hres : (a.setWidth 17 + m.setWidth 17).setWidth 16 = sum16 a m := by
    apply BitVec.eq_of_toNat_eq
    rw [BitVec.toNat_setWidth, hsum, sum16, BitVec.toNat_ofNat]
  have hcarry : decide ((a.toNat + m.toNat) / 2 ^ 16 % 2 = 1) = decide (65536 ≤ a.toNat + m.toNat) :=
    decide_eq_decide.2 (by omega)
  simp only [add16, sumFlags16, hres, nz16_eq, overflow_sum16, getLsbD_eq_decide, hsum, hcarry]

/-- Sub16 of R11, in integers. -/
theorem sub16_eq (f : Ccr) (a m : Word) : sub16 f a m = (diff16 a m, diffFlags16 f a m) := by
  have ha := a.isLt
  have hm := m.isLt
  have hres : a - m = diff16 a m := by
    apply BitVec.eq_of_toNat_eq
    simp only [diff16, BitVec.toNat_sub, BitVec.toNat_ofInt]
    omega
  simp only [sub16, diffFlags16, hres, nz16_eq, overflow_diff16, BitVec.lt_def]

/-! ### The one-operand operations -/

theorem comOp_eq (f : Ccr) (m : Byte) : comOp f m = unRef .com f m := by
  have hres : ~~~m = BitVec.ofNat 8 (255 - m.toNat) := by
    apply BitVec.eq_of_toNat_eq
    simp only [BitVec.toNat_not, BitVec.toNat_ofNat]
    omega
  simp only [comOp, unRef, hres, nz8_eq, moveRef8]

theorem incOp_eq (f : Ccr) (m : Byte) : incOp f m = unRef .inc f m := by
  have hm := m.isLt
  have hres : m + 1 = BitVec.ofNat 8 (m.toNat + 1) := by
    rw [BitVec.ofNat_add, BitVec.ofNat_toNat, BitVec.setWidth_eq]
    rfl
  have hv : (m == 0x7F#8) = !fits8 (m.toInt + 1) := by
    rw [Bool.eq_iff_iff]
    simp only [fits8, toInt_byte, beq_iff_eq, ← BitVec.toNat_inj, BitVec.toNat_ofNat, Bool.not_eq_true',
      decide_eq_false_iff_not]
    omega
  simp only [incOp, unRef, hres, nz8_eq, hv]

theorem decOp_eq (f : Ccr) (m : Byte) : decOp f m = unRef .dec f m := by
  have hm := m.isLt
  have hres : m - 1#8 = BitVec.ofInt 8 (m.toInt - 1) := by
    apply BitVec.eq_of_toNat_eq
    simp only [toInt_byte, BitVec.toNat_sub, BitVec.toNat_ofInt, BitVec.toNat_ofNat]
    omega
  have hv : (m == 0x80#8) = !fits8 (m.toInt - 1) := by
    rw [Bool.eq_iff_iff]
    simp only [fits8, toInt_byte, beq_iff_eq, ← BitVec.toNat_inj, BitVec.toNat_ofNat, Bool.not_eq_true',
      decide_eq_false_iff_not]
    omega
  rw [decOp, show m - 1 = _ from hres, nz8_eq, hv, unRef]

theorem bit0_eq_decide {w : Nat} (m : BitVec w) : m.getLsbD 0 = decide (m.toNat % 2 = 1) := by
  rw [getLsbD_eq_decide, Nat.pow_zero, Nat.div_one]

theorem msb_byte (m : Byte) : m.msb = decide (128 ≤ m.toNat) := BitVec.msb_eq_decide m

theorem aslOp_eq (f : Ccr) (m : Byte) : aslOp f m = unRef .asl f m := by
  have hres : m <<< 1 = BitVec.ofNat 8 (2 * m.toNat) := by
    apply BitVec.eq_of_toNat_eq
    simp only [BitVec.toNat_shiftLeft, Nat.shiftLeft_eq, BitVec.toNat_ofNat]
    omega
  simp only [aslOp, unRef, hres, shiftFlags8_eq, msb_byte m]

theorem lsrOp_eq (f : Ccr) (m : Byte) : lsrOp f m = unRef .lsr f m := by
  have hm := m.isLt
  have hres : m >>> 1 = BitVec.ofNat 8 (m.toNat / 2) := by
    apply BitVec.eq_of_toNat_eq
    simp only [BitVec.toNat_ushiftRight, Nat.shiftRight_eq_div_pow, BitVec.toNat_ofNat]
    omega
  simp only [lsrOp, unRef, hres, shiftFlags8_eq, bit0_eq_decide]

/-- A bit put above the upper seven bits of a byte: half the byte, and the bit's 128. -/
theorem toNat_bit_append_half (b : Bool) (m : Byte) :
    (BitVec.ofBool b ++ m.extractLsb' 1 7 : Byte).toNat = 128 * b.toNat + m.toNat / 2 := by
  have hm := m.isLt
  have hhalf : m.toNat / 2 % 128 < 2 ^ 7 := by omega
  simp only [BitVec.toNat_append, BitVec.toNat_ofBool, BitVec.extractLsb'_toNat, Nat.shiftRight_eq_div_pow, Nat.pow_one,
    Nat.reducePow]
  rw [← Nat.shiftLeft_add_eq_or_of_lt hhalf, Nat.shiftLeft_eq]
  omega

theorem asrOp_eq (f : Ccr) (m : Byte) : asrOp f m = unRef .asr f m := by
  have hm := m.isLt
  have hres : (BitVec.ofBool m.msb ++ m.extractLsb' 1 7 : Byte) = BitVec.ofInt 8 (m.toInt / 2) := by
    apply BitVec.eq_of_toNat_eq
    rw [toNat_bit_append_half, msb_byte, toInt_byte, BitVec.toNat_ofInt]
    by_cases h : 128 ≤ m.toNat
    · rw [decide_eq_true h, if_pos h, Bool.toNat_true]
      omega
    · rw [decide_eq_false h, if_neg h, Bool.toNat_false]
      omega
  simp only [asrOp, unRef, hres, shiftFlags8_eq, bit0_eq_decide]

theorem rorOp_eq (f : Ccr) (m : Byte) : rorOp f m = unRef .ror f m := by
  have hm := m.isLt
  have hc := Bool.toNat_le f.c
  have hres : (BitVec.ofBool f.c ++ m.extractLsb' 1 7 : Byte) = BitVec.ofNat 8 (m.toNat / 2 + 128 * f.c.toNat) := by
    apply BitVec.eq_of_toNat_eq
    rw [toNat_bit_append_half, BitVec.toNat_ofNat]
    omega
  simp only [rorOp, unRef, hres, shiftFlags8_eq, bit0_eq_decide]

theorem rolOp_eq (f : Ccr) (m : Byte) : rolOp f m = unRef .rol f m := by
  have hm := m.isLt
  have hc := Bool.toNat_le f.c
  have hres : (m.extractLsb' 0 7 ++ BitVec.ofBool f.c : Byte) = BitVec.ofNat 8 (2 * m.toNat + f.c.toNat) := by
    apply BitVec.eq_of_toNat_eq
    rw [toNat_append_ofBool, BitVec.extractLsb'_toNat, BitVec.toNat_ofNat, Nat.shiftRight_zero]
    omega
  simp only [rolOp, unRef, hres, shiftFlags8_eq, msb_byte m]

/-- Every one-operand operation of the model is the one in integers. -/
theorem UnOp.op_eq (k : UnOp) (f : Ccr) (m : Byte) : k.op f m = unRef k f m := by
  cases k with
  | neg => exact sub8_eq f 0 m false
  | com => exact comOp_eq f m
  | inc => exact incOp_eq f m
  | dec => exact decOp_eq f m
  | clr => rfl
  | asl => exact aslOp_eq f m
  | asr => exact asrOp_eq f m
  | lsr => exact lsrOp_eq f m
  | rol => exact rolOp_eq f m
  | ror => exact rorOp_eq f m

/-! ### The shifts of D, and MUL -/

theorem asldOp_eq (f : Ccr) (d : Word) :
    asldOp f d =
      (BitVec.ofNat 16 (2 * d.toNat), shiftRef16 f (BitVec.ofNat 16 (2 * d.toNat)) (decide (32768 ≤ d.toNat))) := by
  have hres : d <<< 1 = BitVec.ofNat 16 (2 * d.toNat) := by
    apply BitVec.eq_of_toNat_eq
    simp only [BitVec.toNat_shiftLeft, Nat.shiftLeft_eq, BitVec.toNat_ofNat]
    omega
  have hout : d.msb = decide (32768 ≤ d.toNat) := BitVec.msb_eq_decide d
  simp only [asldOp, hres, shiftFlags16_eq, hout]

theorem lsrdOp_eq (f : Ccr) (d : Word) :
    lsrdOp f d =
      (BitVec.ofNat 16 (d.toNat / 2), shiftRef16 f (BitVec.ofNat 16 (d.toNat / 2)) (decide (d.toNat % 2 = 1))) := by
  have hd := d.isLt
  have hres : d >>> 1 = BitVec.ofNat 16 (d.toNat / 2) := by
    apply BitVec.eq_of_toNat_eq
    simp only [BitVec.toNat_ushiftRight, Nat.shiftRight_eq_div_pow, BitVec.toNat_ofNat]
    omega
  simp only [lsrdOp, hres, shiftFlags16_eq, bit0_eq_decide]

/-- The product of two bytes fits in a word. -/
theorem toNat_mul_zext16 (a b : Byte) : (zext16 a * zext16 b).toNat = a.toNat * b.toNat := by
  have hprod : a.toNat * b.toNat ≤ 255 * 255 :=
    Nat.mul_le_mul (Nat.le_of_lt_succ a.isLt) (Nat.le_of_lt_succ b.isLt)
  have hext (v : Byte) : (zext16 v).toNat = v.toNat := BitVec.toNat_setWidth_of_le (by omega)
  rw [BitVec.toNat_mul, hext, hext, Nat.mod_eq_of_lt (by omega)]

theorem bit7_eq_decide (p : Word) : p.getLsbD 7 = decide (128 ≤ p.toNat % 256) := by
  rw [getLsbD_eq_decide]
  exact decide_eq_decide.2 (by omega)

end Sys2Proof.Machine
end


section
/-! PROOF. The instructions that store nothing (40_index_stack to 42_logic_shift_move): the operation of each shape, its
cycles over and the MPU registers replaced, then the statements O9 to O12, O14 to O19 and O21. -/

namespace Sys2Proof.Machine

/-! ### Register updates as updates of the MPU registers -/

theorem State.withAcc_withCcr_eq (s : State) (r : Acc) (v : Byte) (f : Ccr) :
    (s.withAcc r v).withCcr f = { s with cpu := (s.cpu.setAcc r v).setCcr f } := by
  cases r <;> rfl

theorem State.withCcr_eq (s : State) (f : Ccr) : s.withCcr f = { s with cpu := s.cpu.setCcr f } := rfl

theorem State.withReg16_withCcr_eq (s : State) (r : Reg16) (v : Word) (f : Ccr) :
    (s.withReg16 r v).withCcr f = { s with cpu := (s.cpu.setReg16 r v).setCcr f } := by
  cases r with
  | x => rfl
  | sp => rfl
  | d => rw [State.withReg16, hi_eq_ofNat, lo_eq_ofNat]; rfl

/-! ### The operation of each shape completes -/

section Shapes

variable {i : Instr} {s : State}

theorem Completes.of_accBinary {op : Ccr → Byte → Byte → Byte × Ccr} {r : Acc} {o : Src8} {v : Byte} {f : Ccr}
    (he : exec i s = accBinary op r o s) (hc : cyclesLeft i = o.cycles) (hfree : ∀ a ∈ o.addrs s, isReserved a = false)
    (hop : op s.cpu.ccr (s.acc r) (o.read s).1 = (v, f)) :
    Completes i s ((s.cpu.setAcc r v).setCcr f) (o.addrs s) := by
  have hr := o.read_readsOnly s
  refine Completes.intro hr ?_ fun hq => hc ▸ o.read_time s hq
  rw [he, accBinary, guardBus_of hfree, hop, State.withAcc_withCcr_eq, hr.cpu]

theorem Completes.of_accCompare {op : Ccr → Byte → Byte → Byte × Ccr} {r : Acc} {o : Src8} {v : Byte} {f : Ccr}
    (he : exec i s = accCompare op r o s) (hc : cyclesLeft i = o.cycles) (hfree : ∀ a ∈ o.addrs s, isReserved a = false)
    (hop : op s.cpu.ccr (s.acc r) (o.read s).1 = (v, f)) :
    Completes i s (s.cpu.setCcr f) (o.addrs s) := by
  have hr := o.read_readsOnly s
  refine Completes.intro hr ?_ fun hq => hc ▸ o.read_time s hq
  rw [he, accCompare, guardBus_of hfree, hop, State.withCcr_eq, hr.cpu]

theorem Completes.of_loadReg16 {r : Reg16} {o : Src16} (he : exec i s = loadReg16 r o s) (hc : cyclesLeft i = o.cycles)
    (hfree : ∀ a ∈ o.addrs s, isReserved a = false) :
    Completes i s ((s.cpu.setReg16 r (o.read s).1).setCcr (moveRef16 s.cpu.ccr (o.read s).1)) (o.addrs s) := by
  have hr := o.read_readsOnly s
  refine Completes.intro hr ?_ fun hq => hc ▸ o.read_time s hq
  rw [he, loadReg16, guardBus_of hfree, moveFlags16_eq, State.withReg16_withCcr_eq, hr.cpu]

theorem Completes.of_dBinary {op : Ccr → Word → Word → Word × Ccr} {o : Src16} {v : Word} {f : Ccr}
    (he : exec i s = dBinary op o s) (hc : cyclesLeft i = o.cycles + 1) (hfree : ∀ a ∈ o.addrs s, isReserved a = false)
    (hop : op s.cpu.ccr s.d (o.read s).1 = (v, f)) :
    Completes i s ((s.cpu.setReg16 .d v).setCcr f) (o.addrs s) := by
  have hr := (o.read_readsOnly s).trans (State.busIdle_readsOnly _)
  refine Completes.intro hr ?_ fun hq => hc ▸ (o.read_time s hq).tick
  rw [he, dBinary, guardBus_of hfree, hop, State.withReg16_withCcr_eq, hr.cpu]

theorem Completes.of_compareX {o : Src16} (he : exec i s = compareX o s) (hc : cyclesLeft i = o.cycles + 1)
    (hfree : ∀ a ∈ o.addrs s, isReserved a = false) :
    Completes i s (s.cpu.setCcr (diffFlags16 s.cpu.ccr s.cpu.x (o.read s).1)) (o.addrs s) := by
  have hr := (o.read_readsOnly s).trans (State.busIdle_readsOnly _)
  refine Completes.intro hr ?_ fun hq => hc ▸ (o.read_time s hq).tick
  rw [he, compareX, guardBus_of hfree, sub16_eq, State.withCcr_eq, hr.cpu]

theorem State.nextByte_readsOnly (s : State) : ReadsOnly s s.nextByte := State.busDiscard_readsOnly s.cpu.pc s

theorem State.nextByte_time (h : ∀ a ∈ [s.cpu.pc], quietRead a = true) : TimeOnly 1 s s.nextByte :=
  (TimeOnly.zero s).discard (h s.cpu.pc (by simp))

theorem Completes.of_accUnary {op : Ccr → Byte → Byte × Ccr} {r : Acc} (he : exec i s = accUnary op r s)
    (hc : cyclesLeft i = 1) :
    Completes i s ((s.cpu.setAcc r (op s.cpu.ccr (s.acc r)).1).setCcr (op s.cpu.ccr (s.acc r)).2) [s.cpu.pc] := by
  refine Completes.intro s.nextByte_readsOnly ?_ fun hq => hc ▸ State.nextByte_time hq
  rw [he, accUnary, State.withAcc_withCcr_eq, s.nextByte_readsOnly.cpu]

/-- An instruction that is `inherent3 f` replaces the MPU registers by `f` after an idle cycle. -/
theorem Completes.of_inherent3 {f : Cpu → Cpu} (he : exec i s = inherent3 f s) (hc : cyclesLeft i = 2) :
    Completes i s (f s.cpu) [s.cpu.pc] := by
  have hr := s.nextByte_readsOnly.trans (State.busIdle_readsOnly _)
  refine Completes.intro hr ?_ fun hq => hc ▸ (State.nextByte_time hq).tick
  rw [he, inherent3, hr.cpu]

theorem State.beforePull_readsOnly (s : State) : ReadsOnly s s.beforePull :=
  s.nextByte_readsOnly.trans (State.busDiscard_readsOnly s.cpu.sp _)

theorem State.beforePull_time (hpc : quietRead s.cpu.pc = true) (hsp : quietRead s.cpu.sp = true) :
    TimeOnly 2 s s.beforePull :=
  ((TimeOnly.zero s).discard hpc).discard hsp

/-- An instruction that is `inherentSp f` replaces the MPU registers by `f` after a discarded read at SP. -/
theorem Completes.of_inherentSp {f : Cpu → Cpu} (he : exec i s = inherentSp f s) (hc : cyclesLeft i = 2) :
    Completes i s (f s.cpu) [s.cpu.pc, s.cpu.sp] := by
  refine Completes.intro s.beforePull_readsOnly ?_ fun hq => hc ▸ State.beforePull_time (hq _ (by simp)) (hq _ (by simp))
  rw [he, inherentSp, s.beforePull_readsOnly.cpu]

theorem TimeOnly.idles {n : Nat} {s t : State} (h : TimeOnly n s t) (m : Nat) : TimeOnly (n + m) s (t.idles m) := by
  induction m generalizing n t with
  | zero => exact h
  | succ m ih =>
    have hrest : TimeOnly (n + 1 + m) s (t.busIdle.idles m) := ih h.tick
    rwa [Nat.add_assoc, Nat.add_comm 1 m] at hrest

/-- D and the flags replaced after `n` idle cycles. -/
theorem Completes.of_idles {n : Nat} {v : Word} {f : Ccr}
    (he : exec i s = .next (((s.nextByte.idles n).withReg16 .d v).withCcr f)) (hc : cyclesLeft i = 1 + n) :
    Completes i s ((s.cpu.setReg16 .d v).setCcr f) [s.cpu.pc] := by
  have hr := s.nextByte_readsOnly.trans (State.idles_readsOnly n _)
  refine Completes.intro hr ?_ fun hq => hc ▸ (State.nextByte_time hq).idles n
  rw [he, State.withReg16_withCcr_eq, hr.cpu]

end Shapes

/-! ### Additions, subtractions and comparisons -/

/-- Settles O9: ADD without a carry in, ADC with C. -/
theorem addCompletes : Obligations.AddCompletes := by
  unfold Obligations.AddCompletes
  intro r o s hfree
  exact ⟨.of_accBinary (exec_binInstr .add r o s) (cyclesLeft_binInstr .add r o) hfree (add8_eq _ _ _ false),
    .of_accBinary (exec_binInstr .adc r o s) (cyclesLeft_binInstr .adc r o) hfree (add8_eq _ _ _ _)⟩

/-- Settles O10: CMP is SUB for its flags. -/
theorem subtractCompletes : Obligations.SubtractCompletes := by
  unfold Obligations.SubtractCompletes
  intro r o s hfree
  exact ⟨.of_accBinary (exec_binInstr .sub r o s) (cyclesLeft_binInstr .sub r o) hfree (sub8_eq _ _ _ false),
    .of_accBinary (exec_binInstr .sbc r o s) (cyclesLeft_binInstr .sbc r o) hfree (sub8_eq _ _ _ _),
    .of_accCompare (exec_cmpInstr .cmp r o s) (cyclesLeft_cmpInstr .cmp r o) hfree (sub8_eq _ _ _ false)⟩

theorem cyclesLeft_adddInstr (o : Src16) : cyclesLeft (adddInstr o) = o.cycles + 1 := by
  rcases o with m | ⟨_ | _ | _⟩ <;> rfl

theorem cyclesLeft_subdInstr (o : Src16) : cyclesLeft (subdInstr o) = o.cycles + 1 := by
  rcases o with m | ⟨_ | _ | _⟩ <;> rfl

theorem cyclesLeft_cpxInstr (o : Src16) : cyclesLeft (cpxInstr o) = o.cycles + 1 := by
  rcases o with m | ⟨_ | _ | _⟩ <;> rfl

/-- Settles O11: ADDD and SUBD replace D, CPX the flags alone. -/
theorem doubleCompletes : Obligations.DoubleCompletes := by
  unfold Obligations.DoubleCompletes
  intro o s hfree
  exact ⟨.of_dBinary (exec_adddInstr o s) (cyclesLeft_adddInstr o) hfree (add16_eq _ _ _),
    .of_dBinary (exec_subdInstr o s) (cyclesLeft_subdInstr o) hfree (sub16_eq _ _ _),
    .of_compareX (exec_cpxInstr o s) (cyclesLeft_cpxInstr o) hfree⟩

/-! ### One operand, in an accumulator -/

theorem cyclesLeft_accInstr (k : UnOp) (r : Acc) : cyclesLeft (accInstr k r) = 1 := by
  cases k <;> cases r <;> rfl

/-- TSTA and TSTB write the flags of TST. -/
theorem tstAccInstr_completes (r : Acc) (s : State) :
    Completes (tstAccInstr r) s (s.cpu.setCcr (tstFlags s.cpu.ccr (s.acc r))) [s.cpu.pc] := by
  cases r with
  | a => exact Completes.of_inherent2 (f := fun c => c.setCcr (tstFlags c.ccr c.a)) rfl rfl
  | b => exact Completes.of_inherent2 (f := fun c => c.setCcr (tstFlags c.ccr c.b)) rfl rfl

/-- Settles O12: each operation is the one in integers. -/
theorem accUnaryCompletes : Obligations.AccUnaryCompletes := by
  unfold Obligations.AccUnaryCompletes
  intro r s
  constructor
  · intro k
    rw [← k.op_eq]
    exact .of_accUnary (exec_accInstr k r s) (cyclesLeft_accInstr k r)
  · rw [← tstFlags_eq]
    exact tstAccInstr_completes r s

/-! ### Two accumulators -/

theorem exec_aba (s : State) : exec .aba s = execAba s := rfl

theorem exec_sba (s : State) : exec .sba s = execSba s := rfl

theorem exec_cba (s : State) : exec .cba s = execCba s := rfl

theorem exec_tab (s : State) : exec .tab s = execTab s := rfl

theorem exec_tba (s : State) : exec .tba s = execTba s := rfl

/-- Settles O14: the five are inherent instructions of two cycles. -/
theorem accumulatorPairCompletes : Obligations.AccumulatorPairCompletes := by
  unfold Obligations.AccumulatorPairCompletes
  intro s
  have hadd : addOp s.cpu.ccr s.cpu.a s.cpu.b = _ := add8_eq _ _ _ false
  have hsub : subOp s.cpu.ccr s.cpu.a s.cpu.b = _ := sub8_eq _ _ _ false
  refine ⟨?_, ?_, ?_, ?_, ?_⟩
  · have h := Completes.of_inherent2 (exec_aba s) rfl
    rwa [hadd] at h
  · have h := Completes.of_inherent2 (exec_sba s) rfl
    rwa [hsub] at h
  · have h := Completes.of_inherent2 (exec_cba s) rfl
    rwa [hsub] at h
  · rw [← moveFlags8_eq]
    exact .of_inherent2 (exec_tab s) rfl
  · rw [← moveFlags8_eq]
    exact .of_inherent2 (exec_tba s) rfl

/-! ### MUL and DAA (R206, R213) -/

theorem exec_mul (s : State) : exec .mul s = execMul s := rfl

/-- Settles O15: the product of the model fits, and its bit 7 is C. -/
theorem mulCompletes : Obligations.MulCompletes := by
  unfold Obligations.MulCompletes
  intro s
  refine ⟨zext16 s.cpu.a * zext16 s.cpu.b, toNat_mul_zext16 _ _, ?_⟩
  rw [← bit7_eq_decide]
  exact .of_idles (exec_mul s) rfl

/-- The correction of the low digit: 6 after a half carry or a digit above 9. -/
def daaLow (f : Ccr) (a : Byte) : Nat := if a.toNat % 16 > 9 ∨ f.h = true then 6 else 0

/-- The correction of the high digit: 96 after a carry, or where the digit is above 9 or the low one's carry makes it so. -/
def daaHigh (f : Ccr) (a : Byte) : Nat :=
  if a.toNat / 16 > 9 ∨ (a.toNat / 16 > 8 ∧ a.toNat % 16 > 9) ∨ f.c = true then 96 else 0

/-- The two corrections have no bit in common. -/
theorem daaCorrection_toNat (f : Ccr) (a : Byte) : (daaCorrection f a).toNat = daaLow f a + daaHigh f a := by
  have hcond : ((a.toNat / 16 > 8 ∧ a.toNat % 16 > 9) ∨ a.toNat / 16 > 9 ∨ f.c = true) ↔
      (a.toNat / 16 > 9 ∨ (a.toNat / 16 > 8 ∧ a.toNat % 16 > 9) ∨ f.c = true) := or_left_comm
  simp only [daaCorrection, daaLow, daaHigh, if_congr hcond rfl rfl]
  split <;> split <;> rfl

/-- The sum DAA makes, before it is cut to a byte. -/
def daaSum (f : Ccr) (a : Byte) : Nat := a.toNat + daaLow f a + daaHigh f a

/-- DAA of R213, in integers. -/
theorem daaOp_eq (f : Ccr) (a : Byte) (v : Bool) :
    daaOp f a v =
      (BitVec.ofNat 8 (daaSum f a),
        { signZero8 f (BitVec.ofNat 8 (daaSum f a)) with v := v, c := f.c || decide (256 ≤ daaSum f a) }) := by
  have ha := a.isLt
  have hlow : daaLow f a ≤ 6 := by unfold daaLow; split <;> omega
  have hhigh : daaHigh f a ≤ 96 := by unfold daaHigh; split <;> omega
  have hsum : (a.setWidth 9 + (daaCorrection f a).setWidth 9).toNat = daaSum f a := by
    simp only [BitVec.toNat_add, BitVec.toNat_setWidth, daaCorrection_toNat, daaSum]
    omega
  have hres : (a.setWidth 9 + (daaCorrection f a).setWidth 9).setWidth 8 = BitVec.ofNat 8 (daaSum f a) := by
    apply BitVec.eq_of_toNat_eq
    rw [BitVec.toNat_setWidth, hsum, BitVec.toNat_ofNat]
  have hcarry : decide (daaSum f a / 2 ^ 8 % 2 = 1) = decide (256 ≤ daaSum f a) :=
    decide_eq_decide.2 (by unfold daaSum; omega)
  simp only [daaOp, hres, nz8_eq, getLsbD_eq_decide, hsum, hcarry]

theorem exec_daa (s : State) : exec .daa s = execDaa s := rfl

/-- DAA replaces A and the flags. -/
theorem execDaa_eq (s : State) :
    execDaa s =
      .next { s.nextByte with
        cpu := (s.cpu.setAcc .a (BitVec.ofNat 8 (daaSum s.cpu.ccr s.cpu.a))).setCcr
          { signZero8 s.cpu.ccr (BitVec.ofNat 8 (daaSum s.cpu.ccr s.cpu.a)) with
            v := Config.freeBit .daaOverflow s.nextByte.cycles
            c := s.cpu.ccr.c || decide (256 ≤ daaSum s.cpu.ccr s.cpu.a) } } := by
  rw [execDaa, daaOp_eq, State.withAcc_withCcr_eq, s.nextByte_readsOnly.cpu]

/-- Settles O16: V is the bit the model draws. -/
theorem daaCompletes : Obligations.DaaCompletes := by
  unfold Obligations.DaaCompletes
  intro s
  refine ⟨Config.freeBit .daaOverflow s.nextByte.cycles, ?_⟩
  exact Completes.intro s.nextByte_readsOnly ((exec_daa s).trans (execDaa_eq s)) fun hq => State.nextByte_time hq

/-! ### Decimal addition -/

theorem toNat_bcd {n : Nat} (h : n < 100) : (bcd n).toNat = 16 * (n / 10) + n % 10 := by
  rw [bcd, BitVec.toNat_ofNat]
  omega

/-- The flags and the byte after an addition of bytes whose low digits add up to `m` and whose high digits to `n`: DAA adds 6
where `m` is above 9, and 96 where `n` with the carry of the low digit is. -/
theorem daaSum_of_digits {f : Ccr} {a : Byte} {m n : Nat} (hm : m ≤ 18) (hn : n ≤ 18)
    (ha : a.toNat = (16 * n + m) % 256) (hh : f.h = decide (16 ≤ m)) (hc : f.c = decide (256 ≤ 16 * n + m)) :
    daaSum f a = (16 * n + m) % 256 + (if 10 ≤ m then 6 else 0) + (if 10 ≤ n + m / 10 then 96 else 0) := by
  have hlow : (a.toNat % 16 > 9 ∨ f.h = true) ↔ 10 ≤ m := by
    rw [ha, hh, decide_eq_true_iff]
    omega
  have hhigh : (a.toNat / 16 > 9 ∨ (a.toNat / 16 > 8 ∧ a.toNat % 16 > 9) ∨ f.c = true) ↔ 10 ≤ n + m / 10 := by
    rw [ha, hc, decide_eq_true_iff]
    omega
  rw [daaSum, daaLow, daaHigh, if_congr hlow rfl rfl, if_congr hhigh rfl rfl, ha]

/-- Sums `n` and `m` of two decimal digits: the corrected binary sum has the decimal digits of `10 * n + m`. -/
theorem decimal_of_corrected : ∀ n < 19, ∀ m < 19,
    let corrected := (16 * n + m) % 256 + (if 10 ≤ m then 6 else 0) + (if 10 ≤ n + m / 10 then 96 else 0)
    corrected % 256 = 16 * ((10 * n + m) % 100 / 10) + (10 * n + m) % 10 ∧
      (256 ≤ 16 * n + m ∨ 256 ≤ corrected ↔ 100 ≤ 10 * n + m) := by
  decide

/-- DAA after the binary sum of two numbers in decimal digits: the digits of their sum, its hundreds in the carry. -/
theorem daaSum_of_bcd {x y : Nat} (hx : x < 100) (hy : y < 100) (f : Ccr) :
    let a := sum8 (bcd x) (bcd y) false
    let g := sumFlags8 f (bcd x) (bcd y) false
    daaSum g a % 256 = 16 * ((x + y) % 100 / 10) + (x + y) % 10 ∧ (g.c = true ∨ 256 ≤ daaSum g a ↔ 100 ≤ x + y) := by
  intro a g
  have hbx := toNat_bcd hx
  have hby := toNat_bcd hy
  have ha : a.toNat = (16 * (x / 10 + y / 10) + (x % 10 + y % 10)) % 256 := by
    rw [show a = BitVec.ofNat 8 ((bcd x).toNat + (bcd y).toNat + 0) from rfl, BitVec.toNat_ofNat, hbx, hby]
    omega
  have hh : g.h = decide (16 ≤ x % 10 + y % 10) := by
    show decide (16 ≤ (bcd x).toNat % 16 + (bcd y).toNat % 16 + 0) = _
    rw [hbx, hby]
    exact decide_eq_decide.2 (by omega)
  have hc : g.c = decide (256 ≤ 16 * (x / 10 + y / 10) + (x % 10 + y % 10)) := by
    show decide (256 ≤ (bcd x).toNat + (bcd y).toNat + 0) = _
    rw [hbx, hby]
    exact decide_eq_decide.2 (by omega)
  rw [daaSum_of_digits (by omega) (by omega) ha hh hc, hc, decide_eq_true_iff]
  have hxy : x + y = 10 * (x / 10 + y / 10) + (x % 10 + y % 10) := by omega
  rw [hxy]
  exact decimal_of_corrected (x / 10 + y / 10) (by omega) (x % 10 + y % 10) (by omega)

/-- Settles O17: the flags ABA leaves are those DAA's correction needs. -/
theorem decimalAddition : Obligations.DecimalAddition := by
  unfold Obligations.DecimalAddition
  intro s t x y hx hy ha hb hexec
  have hcpu : t.cpu = (s.cpu.setAcc .a (sum8 (bcd x) (bcd y) false)).setCcr (sumFlags8 s.cpu.ccr (bcd x) (bcd y) false) := by
    obtain ⟨u, hu, hcpu, _⟩ := (accumulatorPairCompletes s).1
    rw [hexec, Host.Outcome.next.injEq] at hu
    rw [hu, hcpu, ha, hb]
  obtain ⟨hdigits, hhundreds⟩ := daaSum_of_bcd hx hy s.cpu.ccr
  refine ⟨_, (exec_daa t).trans (execDaa_eq t), ?_, ?_, ?_⟩
  · apply BitVec.eq_of_toNat_eq
    rw [toNat_bcd (by omega), Nat.mod_mod_of_dvd _ (by decide : 10 ∣ 100), ← hdigits, hcpu]
    exact BitVec.toNat_ofNat _ _
  · rw [hcpu]
    exact hb
  · rw [hcpu, Bool.eq_iff_iff, decide_eq_true_iff, ← hhundreds]
    exact Bool.or_eq_true_iff.trans (or_congr_right decide_eq_true_iff)

/-! ### Logic and loads -/

theorem andOp_eq (f : Ccr) (a m : Byte) : andOp f a m = (a &&& m, moveRef8 f (a &&& m)) := by
  rw [andOp, nz8_eq, moveRef8]

theorem eorOp_eq (f : Ccr) (a m : Byte) : eorOp f a m = (a ^^^ m, moveRef8 f (a ^^^ m)) := by
  rw [eorOp, nz8_eq, moveRef8]

theorem oraOp_eq (f : Ccr) (a m : Byte) : oraOp f a m = (a ||| m, moveRef8 f (a ||| m)) := by
  rw [oraOp, nz8_eq, moveRef8]

theorem ldaOp_eq (f : Ccr) (a m : Byte) : ldaOp f a m = (m, moveRef8 f m) := by
  rw [ldaOp, nz8_eq, moveRef8]

/-- Settles O18: BIT is AND for its flags. -/
theorem logicCompletes : Obligations.LogicCompletes := by
  unfold Obligations.LogicCompletes
  intro r o s hfree
  exact ⟨.of_accBinary (exec_binInstr .and r o s) (cyclesLeft_binInstr .and r o) hfree (andOp_eq _ _ _),
    .of_accBinary (exec_binInstr .eor r o s) (cyclesLeft_binInstr .eor r o) hfree (eorOp_eq _ _ _),
    .of_accBinary (exec_binInstr .ora r o s) (cyclesLeft_binInstr .ora r o) hfree (oraOp_eq _ _ _),
    .of_accBinary (exec_binInstr .lda r o s) (cyclesLeft_binInstr .lda r o) hfree (ldaOp_eq _ (s.acc r) _),
    .of_accCompare (exec_cmpInstr .bit r o s) (cyclesLeft_cmpInstr .bit r o) hfree (andOp_eq _ _ _)⟩

/-- Settles O19: the three are one shape. -/
theorem loadsComplete : Obligations.LoadsComplete := by
  unfold Obligations.LoadsComplete
  intro r o s hfree
  exact .of_loadReg16 (exec_loadInstr r o s) (cyclesLeft_loadInstr r o) hfree

/-! ### Words: D shifted, X and SP counted and copied -/

theorem word_add_one (w : Word) : w + 1 = BitVec.ofNat 16 (w.toNat + 1) := by
  rw [BitVec.ofNat_add, BitVec.ofNat_toNat, BitVec.setWidth_eq]
  rfl

theorem word_sub_one (w : Word) : w - 1 = BitVec.ofInt 16 (w.toNat - 1) := by
  have hw := w.isLt
  apply BitVec.eq_of_toNat_eq
  simp only [BitVec.toNat_sub, BitVec.toNat_ofInt, BitVec.ofNat_eq_ofNat, BitVec.toNat_ofNat]
  omega

/-- Z after INX. -/
theorem word_add_one_eq_zero (w : Word) : (w + 1 == 0x0000#16) = decide (w.toNat = 65535) := by
  have hw := w.isLt
  rw [Bool.eq_iff_iff, beq_iff_eq, decide_eq_true_iff, ← BitVec.toNat_inj, word_add_one, BitVec.toNat_ofNat,
    BitVec.toNat_ofNat]
  omega

/-- Z after DEX. -/
theorem word_sub_one_eq_zero (w : Word) : (w - 1 == 0x0000#16) = decide (w.toNat = 1) := by
  have hw := w.isLt
  rw [Bool.eq_iff_iff, beq_iff_eq, decide_eq_true_iff, ← BitVec.toNat_inj, word_sub_one, BitVec.toNat_ofInt,
    BitVec.toNat_ofNat]
  omega

theorem exec_asld (s : State) : exec .asld s = execAsld s := rfl

theorem exec_lsrd (s : State) : exec .lsrd s = execLsrd s := rfl

theorem exec_inx (s : State) : exec .inx s = execInx s := rfl

theorem exec_dex (s : State) : exec .dex s = execDex s := rfl

theorem exec_abx (s : State) : exec .abx s = execAbx s := rfl

theorem exec_txs (s : State) : exec .txs s = execTxs s := rfl

theorem exec_ins (s : State) : exec .ins s = execIns s := rfl

theorem exec_des (s : State) : exec .des s = execDes s := rfl

theorem exec_tsx (s : State) : exec .tsx s = execTsx s := rfl

/-- Settles O21: the shifts of D after one idle cycle; the others are inherent instructions of three cycles. -/
theorem wordRegistersComplete : Obligations.WordRegistersComplete := by
  unfold Obligations.WordRegistersComplete
  intro s
  refine ⟨?_, ?_, ?_, ?_, ?_, ?_, ?_, ?_, ?_⟩
  · have h : Completes .asld s _ _ := .of_idles (n := 1) (exec_asld s) rfl
    rwa [asldOp_eq] at h
  · have h : Completes .lsrd s _ _ := .of_idles (n := 1) (exec_lsrd s) rfl
    rwa [lsrdOp_eq] at h
  · rw [← word_add_one, ← word_add_one_eq_zero]
    exact .of_inherent3 (exec_inx s) rfl
  · rw [← word_sub_one, ← word_sub_one_eq_zero]
    exact .of_inherent3 (exec_dex s) rfl
  · rw [← add_zext16]
    exact .of_inherent3 (exec_abx s) rfl
  · rw [← word_sub_one]
    exact .of_inherent3 (exec_txs s) rfl
  · rw [← word_add_one]
    exact .of_inherentSp (exec_ins s) rfl
  · rw [← word_sub_one]
    exact .of_inherentSp (exec_des s) rfl
  · rw [← word_add_one]
    exact .of_inherentSp (exec_tsx s) rfl

end Sys2Proof.Machine
end


section
/-! PROOF. What an instruction can do to the machine, said once for all of them: it is made of E cycles, effects of reads,
stores, and updates of the MPU registers, the run state, the hold-off and NmiPending. -/

namespace Sys2Proof.Machine

/-! ### The operations a step is made of -/

/-- The flags `g` may replace `f`: any where `free`, else I and H as they were. -/
def Ccr.MayBecome (free : Bool) (f g : Ccr) : Prop := free = true ∨ g.i = f.i ∧ g.h = f.h

/-- `t` comes from `s` by the operations a step outside InReset is made of. Without `free`, the run state, I and H are not
written. -/
inductive Reaches (free : Bool) (s : State) : State → Prop where
  | refl : Reaches free s s
  | tickWith {t : State} (h : Reaches free s t) (preset : Bool) : Reaches free s (t.tickWith preset)
  | readEffect {t : State} (h : Reaches free s t) (a : Addr) : Reaches free s (t.readEffect a)
  | storeAt {t : State} (h : Reaches free s t) (a : Addr) (v : Byte) : Reaches free s (t.storeAt a v)
  | withCpu {t : State} (h : Reaches free s t) (c : Cpu) (hc : t.cpu.ccr.MayBecome free c.ccr) :
    Reaches free s { t with cpu := c }
  | withRun {t : State} (h : Reaches free s t) (r : RunState) (hfree : free = true) (hr : r ≠ .inReset) :
    Reaches free s { t with run := r }
  | withHoldoff {t : State} (h : Reaches free s t) (b : Bool) : Reaches free s { t with irqHoldoff := b }
  | withNmi {t : State} (h : Reaches free s t) (b : Bool) : Reaches free s { t with nmiPending := b }

theorem Ccr.MayBecome.refl {free : Bool} (f : Ccr) : f.MayBecome free f := .inr ⟨rfl, rfl⟩

namespace Reaches

variable {free : Bool} {s t : State}

/-- What each operation keeps, a step outside InReset keeps. -/
theorem keeps {P : State → Prop} (h : Reaches free s t) (h0 : P s) (htick : ∀ u p, P u → P (u.tickWith p))
    (hread : ∀ u a, P u → P (u.readEffect a)) (hstore : ∀ u a v, P u → P (u.storeAt a v))
    (hcpu : ∀ u c, u.cpu.ccr.MayBecome free c.ccr → P u → P { u with cpu := c })
    (hrun : ∀ u r, free = true → r ≠ .inReset → P u → P { u with run := r })
    (hhold : ∀ u b, P u → P { u with irqHoldoff := b }) (hnmi : ∀ u b, P u → P { u with nmiPending := b }) : P t := by
  induction h with
  | refl => exact h0
  | tickWith _ p ih => exact htick _ p ih
  | readEffect _ a ih => exact hread _ a ih
  | storeAt _ a v ih => exact hstore _ a v ih
  | withCpu _ c hc ih => exact hcpu _ c hc ih
  | withRun _ r hfree hr ih => exact hrun _ r hfree hr ih
  | withHoldoff _ b ih => exact hhold _ b ih
  | withNmi _ b ih => exact hnmi _ b ih

/-- Without `free` the run state, I and H stay. -/
theorem control_kept (h : Reaches false s t) :
    t.run = s.run ∧ t.cpu.ccr.i = s.cpu.ccr.i ∧ t.cpu.ccr.h = s.cpu.ccr.h := by
  refine h.keeps (P := fun u => u.run = s.run ∧ u.cpu.ccr.i = s.cpu.ccr.i ∧ u.cpu.ccr.h = s.cpu.ccr.h)
    ⟨rfl, rfl, rfl⟩ ?_ ?_ ?_ ?_ ?_ (fun _ _ hu => hu) (fun _ _ hu => hu)
  · intro u p hu
    rwa [u.tickWith_cpu, u.tickWith_run]
  · intro u a hu
    rwa [u.readEffect_cpu, u.readEffect_run]
  · intro u a v hu
    rwa [u.storeAt_cpu, u.storeAt_run]
  · rintro u c (hfree | ⟨hi, hh⟩) ⟨hr, hui, huh⟩
    · cases hfree
    · exact ⟨hr, hi.trans hui, hh.trans huh⟩
  · rintro u r ⟨⟩

/-! ### Registers -/

theorem withCcr (h : Reaches free s t) (f : Ccr) (hf : t.cpu.ccr.MayBecome free f) : Reaches free s (t.withCcr f) :=
  h.withCpu _ hf

theorem withX (h : Reaches free s t) (v : Word) : Reaches free s (t.withX v) := h.withCpu _ (.refl _)

theorem withSp (h : Reaches free s t) (v : Word) : Reaches free s (t.withSp v) := h.withCpu _ (.refl _)

theorem withPc (h : Reaches free s t) (v : Word) : Reaches free s (t.withPc v) := h.withCpu _ (.refl _)

theorem withAcc (h : Reaches free s t) (r : Acc) (v : Byte) : Reaches free s (t.withAcc r v) := by
  cases r with
  | a | b => exact h.withCpu _ (.refl _)

theorem withReg16 (h : Reaches free s t) (r : Reg16) (v : Word) : Reaches free s (t.withReg16 r v) := by
  cases r with
  | x | sp | d => exact h.withCpu _ (.refl _)

/-! ### Bus accesses and operands -/

theorem idle (h : Reaches free s t) : Reaches free s t.busIdle := h.tickWith false

theorem discard (h : Reaches free s t) (a : Addr) : Reaches free s (t.busDiscard a) := (h.tickWith false).readEffect a

theorem read (h : Reaches free s t) (a : Addr) : Reaches free s (t.busRead a).2 := h.discard a

theorem read16 (h : Reaches free s t) (a : Addr) : Reaches free s (t.busRead16 a).2 := (h.read a).read (a + 1)

theorem write (h : Reaches free s t) (a : Addr) (v : Byte) : Reaches free s (t.busWrite a v) := (h.tickWith _).storeAt a v

theorem write16 (h : Reaches free s t) (a : Addr) (v : Word) : Reaches free s (t.busWrite16 a v) :=
  (h.write a (hi v)).write (a + 1) (lo v)

theorem ticks (h : Reaches free s t) (n : Nat) : Reaches free s (t.ticks n) := by
  induction n generalizing t with
  | zero => exact h
  | succ n ih => exact ih (h.tickWith false)

theorem idles (h : Reaches free s t) (n : Nat) : Reaches free s (t.idles n) := by
  induction n generalizing t with
  | zero => exact h
  | succ n ih => exact ih h.idle

theorem lead (h : Reaches free s t) (o : Mem) : Reaches free s (o.lead t) := by
  cases o with
  | dir _ | ext _ => exact h
  | idx _ => exact h.idle

theorem read8 (h : Reaches free s t) (o : Mem) : Reaches free s (o.read8 t).2 := (h.lead o).read _

theorem src8 (h : Reaches free s t) (o : Src8) : Reaches free s (o.read t).2 := by
  cases o with
  | imm _ => exact h
  | mem e => exact h.read8 e

theorem src16 (h : Reaches free s t) (o : Src16) : Reaches free s (o.read t).2 := by
  cases o with
  | imm _ => exact h
  | mem e => exact (h.lead e).read16 _

/-! ### The stack and the exceptions -/

theorem push8 (h : Reaches free s t) (v : Byte) : Reaches free s (t.push8 v) := (h.write _ v).withSp _

theorem push16 (h : Reaches free s t) (v : Word) : Reaches free s (t.push16 v) := (h.push8 _).push8 _

theorem pull8 (h : Reaches free s t) : Reaches free s t.pull8.2 := (h.withSp _).read _

theorem pull16 (h : Reaches free s t) : Reaches free s t.pull16.2 := h.pull8.pull8

theorem pushFrame (h : Reaches free s t) : Reaches free s t.pushFrame :=
  ((((h.push16 _).push16 _).push8 _).push8 _).push8 _

theorem pullFrame (h : Reaches true s t) : Reaches true s t.pullFrame :=
  h.pull8.pull8.pull8.pull16.pull16.withCpu _ (.inl rfl)

theorem vectorTo (h : Reaches true s t) (vector : Addr) (nmi : Bool) : Reaches true s (t.vectorTo vector nmi) :=
  have hstart : Reaches true s (t.vectorStart nmi) := (h.withCcr _ (.inl rfl)).withNmi _
  ((hstart.read16 vector).withPc _).withRun _ rfl (by decide)

theorem takeException (h : Reaches true s t) (stacked : Bool) (vector : Addr) (nmi : Bool) :
    Reaches true s (t.takeException stacked vector nmi) := by
  cases stacked with
  | true => exact h.vectorTo vector nmi
  | false => exact (h.pushFrame.discard _).vectorTo vector nmi

theorem nextByte (h : Reaches free s t) : Reaches free s t.nextByte := h.discard _

theorem beforePull (h : Reaches free s t) : Reaches free s t.beforePull := h.nextByte.discard _

end Reaches

/-! ### One operation for each shape of instruction -/

/-- The answer `r`, where it is a state, comes from `s` by the operations of a step. -/
def Within (free : Bool) (s : State) (r : Result) : Prop := ∀ t, r = .next t → Reaches free s t

theorem Within.next {free : Bool} {s t : State} (h : Reaches free s t) : Within free s (.next t) := by
  rintro _ ⟨⟩
  exact h

theorem Within.guardBus {free : Bool} {s t : State} {as : List Addr} (h : Reaches free s t) :
    Within free s (guardBus as t) := by
  intro u hu
  obtain ⟨_, rfl⟩ := guardBus_eq_next.1 hu
  exact h

section Shapes

variable {free : Bool}

theorem inherent2_within {f : Cpu → Cpu} (s : State) (hf : ∀ c : Cpu, c.ccr.MayBecome free (f c).ccr) :
    Within free s (inherent2 f s) :=
  .next (Reaches.refl.nextByte.withCpu _ (hf _))

theorem inherent3_within {f : Cpu → Cpu} (s : State) (hf : ∀ c : Cpu, c.ccr.MayBecome free (f c).ccr) :
    Within free s (inherent3 f s) :=
  .next (Reaches.refl.nextByte.idle.withCpu _ (hf _))

theorem inherentSp_within {f : Cpu → Cpu} (s : State) (hf : ∀ c : Cpu, c.ccr.MayBecome free (f c).ccr) :
    Within free s (inherentSp f s) :=
  .next (Reaches.refl.beforePull.withCpu _ (hf _))

theorem accBinary_within {op : Ccr → Byte → Byte → Byte × Ccr} (r : Acc) (o : Src8) (s : State)
    (hop : ∀ (f : Ccr) a m, f.MayBecome free (op f a m).2) : Within free s (accBinary op r o s) := by
  refine .guardBus (((Reaches.refl.src8 o).withAcc _ _).withCcr _ ?_)
  rw [State.withAcc_cpu_ccr, (o.read_readsOnly s).cpu]
  exact hop _ _ _

theorem accCompare_within {op : Ccr → Byte → Byte → Byte × Ccr} (r : Acc) (o : Src8) (s : State)
    (hop : ∀ (f : Ccr) a m, f.MayBecome free (op f a m).2) : Within free s (accCompare op r o s) := by
  refine .guardBus ((Reaches.refl.src8 o).withCcr _ ?_)
  rw [(o.read_readsOnly s).cpu]
  exact hop _ _ _

theorem accUnary_within {op : Ccr → Byte → Byte × Ccr} (r : Acc) (s : State)
    (hop : ∀ (f : Ccr) m, f.MayBecome free (op f m).2) : Within free s (accUnary op r s) := by
  refine .next ((Reaches.refl.nextByte.withAcc _ _).withCcr _ ?_)
  rw [State.withAcc_cpu_ccr, s.nextByte_readsOnly.cpu]
  exact hop _ _

theorem memUnary_within {op : Ccr → Byte → Byte × Ccr} (o : Mem) (s : State)
    (hop : ∀ (f : Ccr) m, f.MayBecome free (op f m).2) : Within free s (memUnary op o s) := by
  refine .guardBus (((Reaches.refl.read8 o).idle.write _ _).withCcr _ ?_)
  rw [State.busWrite_cpu, State.busIdle_cpu, (o.read8_readsOnly s).cpu]
  exact hop _ _

theorem memTest_within (o : Mem) (s : State) : Within free s (memTest o s) := by
  refine .guardBus ((Reaches.refl.read8 o).idle.idle.withCcr _ ?_)
  rw [State.busIdle_cpu, State.busIdle_cpu, (o.read8_readsOnly s).cpu]
  exact .inr ⟨rfl, rfl⟩

theorem storeAcc_within (r : Acc) (o : Mem) (s : State) : Within free s (storeAcc r o s) := by
  refine .guardBus (((Reaches.refl.lead o).write _ _).withCcr _ ?_)
  rw [State.busWrite_cpu, (o.lead_readsOnly s).cpu]
  exact .inr ⟨rfl, rfl⟩

theorem storeReg16_within (r : Reg16) (o : Mem) (s : State) : Within free s (storeReg16 r o s) := by
  refine .guardBus (((Reaches.refl.lead o).write16 _ _).withCcr _ ?_)
  rw [State.busWrite16, State.busWrite_cpu, State.busWrite_cpu, (o.lead_readsOnly s).cpu]
  exact .inr ⟨rfl, rfl⟩

theorem loadReg16_within (r : Reg16) (o : Src16) (s : State) : Within free s (loadReg16 r o s) := by
  refine .guardBus (((Reaches.refl.src16 o).withReg16 _ _).withCcr _ ?_)
  rw [State.withReg16_cpu_ccr, (o.read_readsOnly s).cpu]
  exact .inr ⟨rfl, rfl⟩

theorem dBinary_within {op : Ccr → Word → Word → Word × Ccr} (o : Src16) (s : State)
    (hop : ∀ (f : Ccr) a m, f.MayBecome free (op f a m).2) : Within free s (dBinary op o s) := by
  refine .guardBus (((Reaches.refl.src16 o).idle.withReg16 _ _).withCcr _ ?_)
  rw [State.withReg16_cpu_ccr, State.busIdle_cpu, (o.read_readsOnly s).cpu]
  exact hop _ _ _

theorem compareX_within (o : Src16) (s : State) : Within free s (compareX o s) := by
  refine .guardBus ((Reaches.refl.src16 o).idle.withCcr _ ?_)
  rw [State.busIdle_cpu, (o.read_readsOnly s).cpu]
  exact .inr ⟨rfl, rfl⟩

theorem branchIf_within (cond : Bool) (rel : Byte) (s : State) : Within free s (branchIf cond rel s) := by
  rw [branchIf_eq]
  exact .next (Reaches.refl.idle.withCpu _ (by rw [s.busIdle_cpu]; exact .refl _))

theorem jumpTo_within (o : Mem) (s : State) : Within free s (jumpTo o s) := .next ((Reaches.refl.lead o).withPc _)

theorem callTo_within {s t : State} (h : Reaches free s t) (target : Addr) : Within free s (callTo target t) :=
  .guardBus (((h.discard target).push16 _).withPc _)

/-- D and the flags replaced after idle cycles: ASLD, LSRD, MUL. -/
theorem idlesD_within (n : Nat) (v : Word) {f : Ccr} (s : State) (hf : s.cpu.ccr.MayBecome free f) :
    Within free s (.next (((s.nextByte.idles n).withReg16 .d v).withCcr f)) := by
  refine .next (((Reaches.refl.nextByte.idles n).withReg16 _ _).withCcr _ ?_)
  rwa [State.withReg16_cpu_ccr, (State.idles_readsOnly n _).cpu, s.nextByte_readsOnly.cpu]

theorem execDaa_within (s : State) : Within free s (execDaa s) := by
  refine .next ((Reaches.refl.nextByte.withAcc _ _).withCcr _ ?_)
  rw [State.withAcc_cpu_ccr, s.nextByte_readsOnly.cpu]
  exact .inr ⟨rfl, rfl⟩

/-- PULA and PULB. -/
theorem pullAcc_within (r : Acc) (s : State) :
    Within free s (guardBus [s.cpu.sp + 1] (s.beforePull.pull8.2.withAcc r s.beforePull.pull8.1)) :=
  .guardBus (Reaches.refl.beforePull.pull8.withAcc _ _)

/-- PSHA and PSHB. -/
theorem pushByte_within (v : Byte) (s : State) : Within free s (guardBus [s.cpu.sp] (s.nextByte.push8 v)) :=
  .guardBus (Reaches.refl.nextByte.push8 _)

end Shapes

theorem execTap_within (s : State) : Within true s (execTap s) :=
  .next ((Reaches.refl.nextByte.withCcr _ (.inl rfl)).withHoldoff _)

theorem execCli_within (s : State) : Within true s (execCli s) :=
  .next ((Reaches.refl.nextByte.withCcr _ (.inl rfl)).withHoldoff _)

theorem execRti_within (s : State) : Within true s (execRti s) := .guardBus Reaches.refl.beforePull.pullFrame

theorem execWai_within (s : State) : Within true s (execWai s) :=
  .guardBus (Reaches.refl.nextByte.pushFrame.withRun _ rfl (by decide))

theorem execSwi_within (s : State) : Within true s (execSwi s) :=
  .guardBus (Reaches.refl.nextByte.takeException false _ _)

theorem testCount_within (s : State) : Within true s (.next { s with run := .testCount }) :=
  .next (Reaches.refl.withRun _ rfl (by decide))

/-! ### Every instruction -/

/-- The instructions that can write I, H or the run state. -/
def writesControl (i : Instr) : Bool :=
  match i with
  | .cli | .tap | .rti | .sei | .swi | .wai | .test4E | .test5E | .aba => true
  | .addaImm _ | .addaDir _ | .addaIdx _ | .addaExt _ | .addbImm _ | .addbDir _ | .addbIdx _ | .addbExt _ => true
  | .adcaImm _ | .adcaDir _ | .adcaIdx _ | .adcaExt _ | .adcbImm _ | .adcbDir _ | .adcbIdx _ | .adcbExt _ => true
  | _ => false

/-- By the shape of the instruction: it answers with what the operations of a step make, and where it is none that can write
I, H or the run state, its flag operation keeps I and H. -/
theorem exec_within (i : Instr) (s : State) : Within (writesControl i) s (exec i s) := by
  unfold exec
  cases i with
  | test4E | test5E => exact testCount_within s
  | nop | tpa | clv | sev | clc | sec | sba | cba | tab | tba | tsta | tstb =>
    exact inherent2_within s fun _ => .inr ⟨rfl, rfl⟩
  | sei | aba => exact inherent2_within s fun _ => .inl rfl
  | inx | dex | txs | abx => exact inherent3_within s fun _ => .inr ⟨rfl, rfl⟩
  | tsx | ins | des => exact inherentSp_within s fun _ => .inr ⟨rfl, rfl⟩
  | lsrd | asld => exact idlesD_within 1 _ s (.inr ⟨rfl, rfl⟩)
  | mul => exact idlesD_within 8 _ s (.inr ⟨rfl, rfl⟩)
  | tap => exact execTap_within s
  | cli => exact execCli_within s
  | daa => exact execDaa_within s
  | pula | pulb => exact pullAcc_within _ s
  | psha | pshb => exact pushByte_within _ s
  | pulx => exact .guardBus (Reaches.refl.beforePull.pull16.withX _)
  | pshx => exact .guardBus (Reaches.refl.nextByte.push16 _)
  | rts => exact .guardBus (Reaches.refl.beforePull.pull16.withPc _)
  | rti => exact execRti_within s
  | wai => exact execWai_within s
  | swi => exact execSwi_within s
  | bra | brn | bhi | bls | bcc | bcs | bne | beq | bvc | bvs | bpl | bmi | bge | blt | bgt | ble =>
    exact branchIf_within _ _ s
  | jmpIdx | jmpExt => exact jumpTo_within _ s
  | jsrDir | jsrExt => exact callTo_within .refl _
  | bsr | jsrIdx => exact callTo_within Reaches.refl.idle _
  | nega | coma | lsra | rora | asra | asla | rola | deca | inca | clra
  | negb | comb | lsrb | rorb | asrb | aslb | rolb | decb | incb | clrb =>
    exact accUnary_within _ s fun _ _ => .inr ⟨rfl, rfl⟩
  | negIdx | comIdx | lsrIdx | rorIdx | asrIdx | aslIdx | rolIdx | decIdx | incIdx | clrIdx
  | negExt | comExt | lsrExt | rorExt | asrExt | aslExt | rolExt | decExt | incExt | clrExt =>
    exact memUnary_within _ s fun _ _ => .inr ⟨rfl, rfl⟩
  | tstIdx | tstExt => exact memTest_within _ s
  | adcaImm | addaImm | adcaDir | addaDir | adcaIdx | addaIdx | adcaExt | addaExt
  | adcbImm | addbImm | adcbDir | addbDir | adcbIdx | addbIdx | adcbExt | addbExt =>
    exact accBinary_within _ _ s fun _ _ _ => .inl rfl
  | subaImm | sbcaImm | andaImm | ldaaImm | eoraImm | oraaImm | subaDir | sbcaDir | andaDir | ldaaDir | eoraDir | oraaDir
  | subaIdx | sbcaIdx | andaIdx | ldaaIdx | eoraIdx | oraaIdx | subaExt | sbcaExt | andaExt | ldaaExt | eoraExt | oraaExt
  | subbImm | sbcbImm | andbImm | ldabImm | eorbImm | orabImm | subbDir | sbcbDir | andbDir | ldabDir | eorbDir | orabDir
  | subbIdx | sbcbIdx | andbIdx | ldabIdx | eorbIdx | orabIdx | subbExt | sbcbExt | andbExt | ldabExt | eorbExt | orabExt =>
    exact accBinary_within _ _ s fun _ _ _ => .inr ⟨rfl, rfl⟩
  | cmpaImm | cmpaDir | cmpaIdx | cmpaExt | cmpbImm | cmpbDir | cmpbIdx | cmpbExt
  | bitaImm | bitaDir | bitaIdx | bitaExt | bitbImm | bitbDir | bitbIdx | bitbExt =>
    exact accCompare_within _ _ s fun _ _ _ => .inr ⟨rfl, rfl⟩
  | staaDir | staaIdx | staaExt | stabDir | stabIdx | stabExt => exact storeAcc_within _ _ s
  | subdImm | subdDir | subdIdx | subdExt | adddImm | adddDir | adddIdx | adddExt =>
    exact dBinary_within _ s fun _ _ _ => .inr ⟨rfl, rfl⟩
  | cpxImm | cpxDir | cpxIdx | cpxExt => exact compareX_within _ s
  | ldsImm | ldsDir | ldsIdx | ldsExt | ldxImm | ldxDir | ldxIdx | ldxExt | lddImm | lddDir | lddIdx | lddExt =>
    exact loadReg16_within _ _ s
  | stsDir | stsIdx | stsExt | stxDir | stxIdx | stxExt | stdDir | stdIdx | stdExt => exact storeReg16_within _ _ s

end Sys2Proof.Machine
end


section
/-! PROOF. The invariant of the states between steps: what each device keeps, what holds inside a step, and the statements
O59 and O60. -/

namespace Sys2Proof.Machine

/-! ### The serial interface keeps its counts and what it forces -/

/-- The parts of the serial interface the invariant speaks of: its counts, and transfer blocked only with ORFE set. -/
structure Sci.Ok (k : Sci) : Prop where
  txBits : k.txBits ≤ 10
  txPreamble : k.txPreamble ≤ 9
  rxBits : k.rxBits ≤ 9
  rxIdleOnes : k.rxIdleOnes ≤ 10
  extCount : k.extCount ≤ 7
  blocked : k.rxBlocked = true → k.orfe = true

theorem Sci.ok_iff (k : Sci) : k.Ok ↔ k.countsOk = true ∧ k.blockedOk = true := by
  simp only [Sci.countsOk, Sci.blockedOk, Bool.and_eq_true, decide_eq_true_eq, Bool.or_eq_true, Bool.not_eq_true',
    ← Bool.not_eq_true, ← imp_iff_not_or]
  exact ⟨fun ⟨h1, h2, h3, h4, h5, h6⟩ => ⟨⟨⟨⟨⟨h1, h2⟩, h3⟩, h4⟩, h5⟩, h6⟩,
    fun ⟨⟨⟨⟨⟨h1, h2⟩, h3⟩, h4⟩, h5⟩, h6⟩ => ⟨h1, h2, h3, h4, h5, h6⟩⟩

/-- The bits by which the serial interface forces direction bits are the same (R412). -/
structure Sci.SameForcing (k k' : Sci) : Prop where
  cc1 : k'.cc1 = k.cc1
  cc0 : k'.cc0 = k.cc0
  te : k'.te = k.te
  re : k'.re = k.re

theorem Sci.SameForcing.refl (k : Sci) : k.SameForcing k := ⟨rfl, rfl, rfl, rfl⟩

theorem Sci.SameForcing.trans {k k' k'' : Sci} (h : k.SameForcing k') (h' : k'.SameForcing k'') : k.SameForcing k'' :=
  ⟨h'.cc1.trans h.cc1, h'.cc0.trans h.cc0, h'.te.trans h.te, h'.re.trans h.re⟩

theorem Sci.SameForcing.forceDdr {k k' : Sci} (h : k.SameForcing k') (d : BitVec 5) : k'.forceDdr d = k.forceDdr d := by
  rw [Sci.forceDdr, Sci.forceDdr, h.cc1, h.cc0, h.te, h.re]

/-- What is forced once stays as it is forced. -/
theorem Sci.forceDdr_forceDdr (k : Sci) (d : BitVec 5) : k.forceDdr (k.forceDdr d) = k.forceDdr d := by
  unfold Sci.forceDdr
  cases k.cc1 <;> cases k.cc0 <;> cases k.te <;> cases k.re <;> revert d <;> decide

/-- An operation of the serial interface that no register write of the MPU is behind. -/
structure Sci.Runs (k k' : Sci) : Prop where
  ok : k.Ok → k'.Ok
  forcing : k.SameForcing k'

theorem Sci.Runs.refl (k : Sci) : k.Runs k := ⟨id, .refl k⟩

theorem Sci.Runs.trans {k k' k'' : Sci} (h : k.Runs k') (h' : k'.Runs k'') : k.Runs k'' :=
  ⟨h'.ok ∘ h.ok, h.forcing.trans h'.forcing⟩

theorem Sci.transmitEdge_runs (k : Sci) : k.Runs k.transmitEdge := by
  unfold Sci.transmitEdge
  split
  · exact .refl k
  · split
    · exact ⟨fun ⟨h1, h2, h3, h4, h5, h6⟩ => ⟨(Nat.sub_le _ _).trans h1, h2, h3, h4, h5, h6⟩, ⟨rfl, rfl, rfl, rfl⟩⟩
    · split
      · exact ⟨fun ⟨_, h2, h3, h4, h5, h6⟩ => ⟨Nat.zero_le _, (Nat.sub_le _ _).trans h2, h3, h4, h5, h6⟩,
          ⟨rfl, rfl, rfl, rfl⟩⟩
      · split
        · exact ⟨fun ⟨_, h2, h3, h4, h5, h6⟩ => ⟨le_rfl, h2, h3, h4, h5, h6⟩, ⟨rfl, rfl, rfl, rfl⟩⟩
        · exact ⟨fun ⟨_, h2, h3, h4, h5, h6⟩ => ⟨Nat.zero_le _, h2, h3, h4, h5, h6⟩, ⟨rfl, rfl, rfl, rfl⟩⟩

theorem Sci.halfBit_runs (k : Sci) : k.Runs k.halfBit := by
  unfold Sci.halfBit
  split
  · exact ⟨fun ⟨h1, h2, h3, h4, h5, h6⟩ => ⟨h1, h2, h3, h4, h5, h6⟩, ⟨rfl, rfl, rfl, rfl⟩⟩
  · exact .refl k

theorem Sci.internalTick_runs (k : Sci) (before after : Word) : k.Runs (k.internalTick before after) := by
  unfold Sci.internalTick
  split
  · exact k.transmitEdge_runs
  · split
    · exact k.halfBit_runs
    · exact .refl k

theorem Sci.externalTick_runs (k : Sci) (between : Option Bool) (p22 : Bool) : k.Runs (k.externalTick between p22) := by
  unfold Sci.externalTick
  split
  · split
    · exact k.transmitEdge_runs.trans
        ⟨fun ⟨h1, h2, h3, h4, _, h6⟩ => ⟨h1, h2, h3, h4, Nat.zero_le _, h6⟩, ⟨rfl, rfl, rfl, rfl⟩⟩
    · exact ⟨fun ⟨h1, h2, h3, h4, _, h6⟩ => ⟨h1, h2, h3, h4, by show _ + 1 ≤ 7; omega, h6⟩, ⟨rfl, rfl, rfl, rfl⟩⟩
  · exact .refl k

/-- Transfer becomes blocked only where ORFE is set (R420). -/
theorem Sci.receiveFrame_runs (k : Sci) (c : Nat) (d : Byte) (stop : Bool) : k.Runs (k.receiveFrame c d stop) := by
  unfold Sci.receiveFrame
  split
  · exact .refl k
  · split
    · split
      · exact ⟨fun ⟨h1, h2, h3, h4, h5, _⟩ => ⟨h1, h2, h3, h4, h5, fun _ => rfl⟩, ⟨rfl, rfl, rfl, rfl⟩⟩
      · exact ⟨fun ⟨h1, h2, h3, h4, h5, h6⟩ => ⟨h1, h2, h3, h4, h5, h6⟩, ⟨rfl, rfl, rfl, rfl⟩⟩
    · split
      · exact ⟨fun ⟨h1, h2, h3, h4, h5, _⟩ => ⟨h1, h2, h3, h4, h5, fun _ => rfl⟩, ⟨rfl, rfl, rfl, rfl⟩⟩
      · exact ⟨fun ⟨h1, h2, h3, h4, h5, _⟩ => ⟨h1, h2, h3, h4, h5, fun _ => rfl⟩, ⟨rfl, rfl, rfl, rfl⟩⟩

theorem Sci.receiveBit_runs (k : Sci) (c : Nat) (b : Bool) : k.Runs (k.receiveBit c b) := by
  unfold Sci.receiveBit
  split
  · exact .refl k
  · split
    · exact ⟨fun ⟨h1, h2, _, h4, h5, h6⟩ => ⟨h1, h2, by show (if b = true then 0 else 1) ≤ 9; split <;> omega, h4, h5, h6⟩,
        ⟨rfl, rfl, rfl, rfl⟩⟩
    · split
      · exact ⟨fun ⟨h1, h2, _, h4, h5, h6⟩ => ⟨h1, h2, by show _ + 1 ≤ 9; omega, h4, h5, h6⟩, ⟨rfl, rfl, rfl, rfl⟩⟩
      · have hend : k.Runs { k with rxBits := 0 } :=
          ⟨fun ⟨h1, h2, _, h4, h5, h6⟩ => ⟨h1, h2, Nat.zero_le _, h4, h5, h6⟩, ⟨rfl, rfl, rfl, rfl⟩⟩
        exact hend.trans (Sci.receiveFrame_runs _ _ _ _)

theorem Sci.countOnes_runs (k : Sci) (b : Bool) : k.Runs (k.countOnes b) := by
  unfold Sci.countOnes
  split
  · exact ⟨fun ⟨h1, h2, h3, _, h5, h6⟩ => ⟨h1, h2, h3, Nat.zero_le _, h5, h6⟩, ⟨rfl, rfl, rfl, rfl⟩⟩
  · split
    · exact ⟨fun ⟨h1, h2, h3, _, h5, h6⟩ => ⟨h1, h2, h3, by show _ + 1 ≤ 10; omega, h5, h6⟩, ⟨rfl, rfl, rfl, rfl⟩⟩
    · exact ⟨fun ⟨h1, h2, h3, _, h5, h6⟩ => ⟨h1, h2, h3, le_rfl, h5, h6⟩, ⟨rfl, rfl, rfl, rfl⟩⟩

theorem Sci.step_runs (k : Sci) (before after : Word) (between : Option Bool) (p22 : Bool) (rx : Option Bool) (c : Nat) :
    k.Runs (k.step before after between p22 rx c) := by
  have hclock : k.Runs (if k.externalClock then k.externalTick between p22 else k.internalTick before after) := by
    split
    · exact k.externalTick_runs between p22
    · exact k.internalTick_runs before after
  have hlevel (j : Sci) : j.Runs { j with p22prev := p22 } :=
    ⟨fun ⟨h1, h2, h3, h4, h5, h6⟩ => ⟨h1, h2, h3, h4, h5, h6⟩, ⟨rfl, rfl, rfl, rfl⟩⟩
  unfold Sci.step
  cases rx with
  | none => exact hclock.trans (hlevel _)
  | some b => exact (hclock.trans (hlevel _)).trans ((Sci.receiveBit_runs _ c b).trans (Sci.countOnes_runs _ b))

/-! ### MPU accesses to the serial interface -/

theorem Sci.readTrcsr_runs (k : Sci) : k.Runs k.readTrcsr :=
  ⟨fun ⟨h1, h2, h3, h4, h5, h6⟩ => ⟨h1, h2, h3, h4, h5, h6⟩, ⟨rfl, rfl, rfl, rfl⟩⟩

/-- Clearing ORFE ends the blocking (R422). -/
theorem Sci.readRdr_runs (k : Sci) : k.Runs k.readRdr := by
  refine ⟨fun ⟨h1, h2, h3, h4, h5, h6⟩ => ⟨h1, h2, h3, h4, h5, fun hb => ?_⟩, ⟨rfl, rfl, rfl, rfl⟩⟩
  obtain ⟨hb, harm⟩ := Bool.and_eq_true_iff.1 hb
  exact Bool.and_eq_true_iff.2 ⟨h6 hb, harm⟩

theorem Sci.writeTdr_runs (k : Sci) (v : Byte) : k.Runs (k.writeTdr v) :=
  ⟨fun ⟨h1, h2, h3, h4, h5, h6⟩ => ⟨h1, h2, h3, h4, h5, h6⟩, ⟨rfl, rfl, rfl, rfl⟩⟩

theorem Sci.Ok.cutTransmit {k : Sci} (h : k.Ok) (c : Nat) : (k.cutTransmit c).Ok := by
  obtain ⟨h1, h2, h3, h4, h5, h6⟩ := h
  refine ⟨?_, h2, h3, h4, h5, h6⟩
  show (if _ then k.txBits else 0) ≤ 10
  split
  · exact h1
  · exact Nat.zero_le _

/-- A cut frame leaves transfer blocked only with the ORFE drawn (log 24). -/
theorem Sci.Ok.cutReceive {k : Sci} (h : k.Ok) (c : Nat) : (k.cutReceive c).Ok := by
  obtain ⟨h1, h2, _, h4, h5, _⟩ := h
  exact ⟨h1, h2, Nat.zero_le _, h4, h5, fun hb => (Bool.and_eq_true_iff.1 hb).2⟩

theorem Sci.Ok.writeRmcr {k : Sci} (h : k.Ok) (c : Nat) (v : Byte) : (k.writeRmcr c v).Ok := by
  have hnew : ({ k with cc1 := v.getLsbD 3, cc0 := v.getLsbD 2, ss1 := v.getLsbD 1, ss0 := v.getLsbD 0 } : Sci).Ok := by
    obtain ⟨h1, h2, h3, h4, h5, h6⟩ := h
    exact ⟨h1, h2, h3, h4, h5, h6⟩
  unfold Sci.writeRmcr
  dsimp only
  split
  · exact h
  · split
    · split
      · exact hnew.cutTransmit c
      · exact hnew
    · split
      · exact (hnew.cutTransmit c).cutReceive c
      · exact hnew.cutReceive c

theorem Sci.Ok.writeTrcsr {k : Sci} (h : k.Ok) (c : Nat) (v : Byte) : (k.writeTrcsr c v).Ok := by
  have hnew : ({ k with
      rie := v.getLsbD 4, re := v.getLsbD 3, tie := v.getLsbD 2, te := v.getLsbD 1
      wu := v.getLsbD 0 && decide (k.rxIdleOnes < 10)
      txPreamble := if !k.te && v.getLsbD 1 then 9 else k.txPreamble } : Sci).Ok := by
    obtain ⟨h1, h2, h3, h4, h5, h6⟩ := h
    refine ⟨h1, ?_, h3, h4, h5, h6⟩
    show (if _ then 9 else k.txPreamble) ≤ 9
    split
    · exact le_rfl
    · exact h2
  unfold Sci.writeTrcsr
  dsimp only
  split
  · split
    · exact (hnew.cutTransmit c).cutReceive c
    · exact hnew.cutReceive c
  · split
    · exact hnew.cutTransmit c
    · exact hnew

/-! ### Inside a step -/

/-- What holds inside a step outside InReset: the invariant, but for what the end of the step takes care of. -/
structure State.InStep (s : State) : Prop where
  memory : s.memoryOk = true
  sci : s.sci.Ok
  directions : s.sci.forceDdr s.ports.p2ddr = s.ports.p2ddr
  mode : s.pc1 = true
  run : s.run ≠ .inReset
  resetCycles : s.resetCycles ≤ 3
  honoured : s.resetSeen = false → s.pins.reset = true ∧ s.pins.vcc = true

theorem State.tickWith_sci_runs (s : State) (p : Bool) : s.sci.Runs (s.tickWith p).sci := by
  unfold State.tickWith
  split
  · exact .refl _
  · exact Sci.step_runs _ _ _ _ _ _ _

/-- RESET or the main supply seen low in an E cycle is noted in it. -/
theorem State.tickWith_honoured {s : State} {p : Bool}
    (hseen : (s.tickWith p).resetSeen = false) : (s.tickWith p).pins.reset = true ∧ (s.tickWith p).pins.vcc = true := by
  have hs := State.resetSeen_of_tickWith hseen
  have hpins : (s.tickWith p).pins = s.nextPins := by unfold State.tickWith; rw [if_neg (by simp [hs])]; rfl
  have hnoted : (s.tickWith p).resetSeen = (s.resetSeen || !s.nextPins.reset || !s.nextPins.vcc) := by
    unfold State.tickWith; rw [if_neg (by simp [hs])]; rfl
  rw [hnoted] at hseen
  simpa [hpins, hs] using hseen

theorem State.readEffect_sci_runs (s : State) (a : Addr) : s.sci.Runs (s.readEffect a).sci := by
  unfold State.readEffect State.registerReadEffect
  split
  · split
    case h_5 => exact s.sci.readTrcsr_runs
    case h_6 => exact s.sci.readRdr_runs
    all_goals exact .refl _
  · exact .refl _

theorem State.storeAt_sci_ok {s : State} (h : s.sci.Ok) (a : Addr) (v : Byte) : (s.storeAt a v).sci.Ok := by
  unfold State.storeAt State.extWrite State.registerWrite State.withSci
  split
  · split
    case h_8 => exact h.writeRmcr _ _
    case h_9 => exact h.writeTrcsr _ _
    case h_10 => exact (s.sci.writeTdr_runs v).ok h
    all_goals exact h
  · split <;> exact h
  · exact h
  · exact h

/-- A write keeps the direction bits as they are forced: it forces them anew where it changes them or what forces them. -/
theorem State.storeAt_directions {s : State} (h : s.sci.forceDdr s.ports.p2ddr = s.ports.p2ddr) (a : Addr) (v : Byte) :
    (s.storeAt a v).sci.forceDdr (s.storeAt a v).ports.p2ddr = (s.storeAt a v).ports.p2ddr := by
  unfold State.storeAt State.extWrite State.registerWrite State.withSci
  split
  · split
    case h_2 => exact Sci.forceDdr_forceDdr _ _
    case h_8 => exact Sci.forceDdr_forceDdr _ _
    case h_9 => exact Sci.forceDdr_forceDdr _ _
    case h_10 => exact ((s.sci.writeTdr_runs v).forcing.forceDdr _).trans h
    all_goals exact h
  · split <;> exact h
  · exact h
  · exact h

/-- Every operation of a step keeps what holds inside it. -/
theorem State.InStep.reaches {free : Bool} {s t : State} (h : s.InStep) (hr : Reaches free s t) : t.InStep := by
  refine hr.keeps h ?_ ?_ ?_ ?_ ?_ ?_ ?_
  · rintro u p ⟨hm, hs, hd, hp, hrun, hc, _⟩
    have hk := u.tickWith_sci_runs p
    refine ⟨(State.memoryOk_congr (by simp) (by simp)).trans hm, hk.ok hs, ?_, ?_, ?_, ?_, State.tickWith_honoured⟩
    · rw [hk.forcing.forceDdr, u.tickWith_ports, hd]
    · rwa [u.tickWith_pc1]
    · rwa [u.tickWith_run]
    · rwa [u.tickWith_resetCycles]
  · rintro u a ⟨hm, hs, hd, hp, hrun, hc, hh⟩
    have hk := u.readEffect_sci_runs a
    refine ⟨(State.memoryOk_congr (by simp) (by simp)).trans hm, hk.ok hs, ?_, ?_, ?_, ?_, ?_⟩
    · rw [hk.forcing.forceDdr, u.readEffect_ports, hd]
    · rwa [u.readEffect_pc1]
    · rwa [u.readEffect_run]
    · rwa [u.readEffect_resetCycles]
    · rwa [u.readEffect_resetSeen, u.readEffect_pins]
  · rintro u a v ⟨hm, hs, hd, hp, hrun, hc, hh⟩
    refine ⟨State.memoryOk_storeAt hm a v, State.storeAt_sci_ok hs a v, State.storeAt_directions hd a v, ?_, ?_, ?_, ?_⟩
    · rwa [u.storeAt_pc1]
    · rwa [u.storeAt_run]
    · rwa [u.storeAt_resetCycles]
    · rwa [u.storeAt_resetSeen, u.storeAt_pins]
  · rintro u c _ ⟨hm, hs, hd, hp, hrun, hc, hh⟩
    exact ⟨hm, hs, hd, hp, hrun, hc, hh⟩
  · rintro u r _ hne ⟨hm, hs, hd, hp, _, hc, hh⟩
    exact ⟨hm, hs, hd, hp, hne, hc, hh⟩
  · rintro u b ⟨hm, hs, hd, hp, hrun, hc, hh⟩
    exact ⟨hm, hs, hd, hp, hrun, hc, hh⟩
  · rintro u b ⟨hm, hs, hd, hp, hrun, hc, hh⟩
    exact ⟨hm, hs, hd, hp, hrun, hc, hh⟩

/-! ### Boundaries and fetches -/

/-- An answer is within the operations of a step from `s` if it is within those from a state reached from `s`. -/
theorem Reaches.trans {free : Bool} {s t u : State} (h : Reaches free s t) (k : Reaches free t u) : Reaches free s u :=
  k.keeps h (fun _ p hu => hu.tickWith p) (fun _ a hu => hu.readEffect a) (fun _ a v hu => hu.storeAt a v)
    (fun _ c hc hu => hu.withCpu c hc) (fun _ r hf hr hu => hu.withRun r hf hr) (fun _ b hu => hu.withHoldoff b)
    (fun _ b hu => hu.withNmi b)

theorem Reaches.toFree {free : Bool} {s t : State} (h : Reaches free s t) : Reaches true s t :=
  h.keeps .refl (fun _ p hu => hu.tickWith p) (fun _ a hu => hu.readEffect a) (fun _ a v hu => hu.storeAt a v)
    (fun _ c _ hu => hu.withCpu c (.inl rfl)) (fun _ r _ hr hu => hu.withRun r rfl hr) (fun _ b hu => hu.withHoldoff b)
    (fun _ b hu => hu.withNmi b)

theorem Within.of_reaches {s t : State} {r : Result} (h : Reaches true s t) (k : Within true t r) : Within true s r :=
  fun u hu => h.trans (k u hu)

theorem exec_within_free (i : Instr) (s : State) : Within true s (exec i s) := fun t ht => (exec_within i s t ht).toFree

theorem fetchThen_within {k : Byte → State → Result} {s : State} (hk : ∀ b t, Within true t (k b t)) :
    Within true s (fetchThen k s) := by
  unfold fetchThen
  split
  · rintro t ⟨⟩
  · exact .of_reaches ((Reaches.refl.read _).withPc _) (hk _ _)

theorem State.executeNext_within (s : State) : Within true s s.executeNext := by
  refine .of_reaches (Reaches.refl.withHoldoff false) (fetchThen_within fun op t => ?_)
  split
  · rintro u ⟨⟩
  · exact exec_within_free _ t
  · exact fetchThen_within fun b u => exec_within_free _ u
  · exact fetchThen_within fun b u => fetchThen_within fun b' w => exec_within_free _ w

theorem State.take_within (src : IrqSource) (s : State) : Within true s (s.take src) :=
  .guardBus (((Reaches.refl.withHoldoff false).ticks _).takeException _ _ _)

theorem State.stepRunning_within (s : State) : Within true s s.stepRunning := by
  unfold State.stepRunning
  split
  · exact .next (Reaches.refl.withRun _ rfl (by decide))
  · split
    · exact s.take_within _
    · exact s.executeNext_within

theorem State.stepWaiting_within (s : State) : Within true s s.stepWaiting := by
  unfold State.stepWaiting
  split
  · exact .next (Reaches.refl.tickWith false)
  · split
    · exact s.take_within _
    · exact .next (Reaches.refl.tickWith false)

theorem State.stepTestCount_within (s : State) : Within true s s.stepTestCount :=
  .next ((Reaches.refl.tickWith false).withPc _)

/-- While halted another bus master may write one byte of external memory. -/
theorem State.stepHalted_next {s t : State} (h : s.stepHalted = .next t) :
    Reaches true s t ∨ ∃ u a v, Reaches true s u ∧ t = { u with ext := u.ext.set (a : Addr).toNat v } := by
  unfold State.stepHalted at h
  split at h
  · cases h
    exact .inl (Reaches.refl.withRun _ rfl (by decide))
  · dsimp only at h
    split at h
    · cases h
      exact .inl (Reaches.refl.tickWith false)
    · split at h
      · cases h
        exact .inl (Reaches.refl.tickWith false)
      · cases h
        exact .inr ⟨_, _, _, Reaches.refl.tickWith false, rfl⟩

theorem State.stepByRunState_of_ne {s : State} (h : s.run ≠ .inReset) {t : State} (ht : s.stepByRunState = .next t) :
    Reaches true s t ∨ ∃ u a v, Reaches true s u ∧ t = { u with ext := u.ext.set (a : Addr).toNat v } := by
  unfold State.stepByRunState at ht
  split at ht
  · exact .inl (s.stepRunning_within t ht)
  · exact .inl (s.stepWaiting_within t ht)
  · exact State.stepHalted_next ht
  · exact .inl (s.stepTestCount_within t ht)
  · exact absurd ‹_› h

theorem State.memoryOk_ext_set {s : State} (h : s.memoryOk = true) (a : Addr) (v : Byte) :
    ({ s with ext := s.ext.set a.toNat v } : State).memoryOk = true := by
  simp only [State.memoryOk, Memory.wf, Bool.and_eq_true] at h ⊢
  exact ⟨Memory.wfWithin_set h.1 (Nat.zero_le _) (Nat.le_of_lt_succ a.isLt), h.2⟩

/-- What holds inside a step holds at its end, before RESET and the supplies take effect. -/
theorem State.InStep.stepByRunState {s t : State} (h : s.InStep) (ht : s.stepByRunState = .next t) : t.InStep := by
  rcases State.stepByRunState_of_ne h.run ht with hr | ⟨u, a, v, hr, rfl⟩
  · exact h.reaches hr
  · obtain ⟨hm, hs, hd, hp, hrun, hc, hh⟩ := h.reaches hr
    exact ⟨State.memoryOk_ext_set hm a v, hs, hd, hp, hrun, hc, hh⟩

/-! ### The end of a step -/

/-- The invariant, but for the notes of a lost supply, which `State.powerEffects` clears. -/
structure State.Settled (s : State) : Prop where
  memory : s.memoryOk = true
  sci : s.sci.Ok
  directions : s.sci.forceDdr s.ports.p2ddr = s.ports.p2ddr
  mode : s.pc1 = true
  resetSeen : s.resetSeen = false
  honoured : s.run = .inReset ∨ s.pins.reset = true ∧ s.pins.vcc = true
  resetCycles : s.resetCycles ≤ 3
  held : s.heldOk = true

theorem State.ok_iff (s : State) : s.ok = true ↔ s.Settled ∧ s.powerLost = false ∧ s.standbyLost = false := by
  simp only [State.ok, State.directionsOk, State.modeOk, State.settledOk, Bool.and_eq_true, beq_iff_eq, Bool.not_eq_true',
    Bool.or_eq_true, decide_eq_true_eq]
  constructor
  · rintro ⟨⟨⟨⟨⟨⟨hm, hc⟩, hb⟩, hd⟩, hp⟩, ⟨⟨⟨hseen, hpow⟩, hstby⟩, hh⟩, hcyc⟩, hheld⟩
    exact ⟨⟨hm, (Sci.ok_iff _).2 ⟨hc, hb⟩, hd, hp, hseen, hh, hcyc, hheld⟩, hpow, hstby⟩
  · rintro ⟨⟨hm, hs, hd, hp, hseen, hh, hcyc, hheld⟩, hpow, hstby⟩
    obtain ⟨hc, hb⟩ := (Sci.ok_iff _).1 hs
    exact ⟨⟨⟨⟨⟨⟨hm, hc⟩, hb⟩, hd⟩, hp⟩, ⟨⟨⟨hseen, hpow⟩, hstby⟩, hh⟩, hcyc⟩, hheld⟩

/-- Losing a supply keeps the RAM canonical, and its notes are cleared. -/
theorem State.Settled.powerEffects {s : State} (h : s.Settled) : s.powerEffects.ok = true := by
  obtain ⟨hm, hs, hd, hp, hseen, hh, hcyc, hheld⟩ := h
  refine (State.ok_iff _).2 ⟨⟨?_, hs, hd, hp, hseen, hh, hcyc, hheld⟩, rfl, rfl⟩
  simp only [State.memoryOk, Bool.and_eq_true] at hm ⊢
  obtain ⟨hext, hram⟩ := hm
  refine ⟨hext, ?_⟩
  have hmain : Memory.wfWithin 0x80 0xFF (if s.powerLost then Memory.scramble s.cycles 0xC0 64 s.ram else s.ram) = true := by
    split
    · exact Memory.wfWithin_scramble _ _ _ hram (by omega) (by omega)
    · exact hram
  unfold State.powerEffects
  dsimp only
  split
  · exact Memory.wfWithin_scramble _ _ _ hmain (by omega) (by omega)
  · exact hmain

theorem Sci.afterReset_ok (rdr tdr : Byte) {ones : Nat} (h : ones ≤ 10) (p22 : Bool) : (Sci.afterReset rdr tdr ones p22).Ok :=
  ⟨Nat.zero_le _, Nat.zero_le _, Nat.zero_le _, h, Nat.zero_le _, nofun⟩

/-- The old and the new addresses of a canonical store are in its range. -/
theorem Memory.wfWithin_either {first last : Nat} (c : Nat) {old new : Memory} (ho : Memory.wfWithin first last old = true)
    (hn : Memory.wfWithin first last new = true) :
    Memory.wfWithin first last (Memory.eitherOf c old new ((old ++ new).map (·.1))) = true := by
  refine Memory.wfWithin_eitherOf c old hn _ fun a ha => ?_
  rw [List.map_append, List.mem_append] at ha
  exact ha.elim (Memory.mem_range ho a) (Memory.mem_range hn a)

/-- A cut by RESET leaves each byte old or new, and the devices at their reset values. -/
theorem State.InStep.enterReset {before s : State} (hb : before.memoryOk = true) (h : s.InStep) :
    (State.enterReset before s).Settled := by
  obtain ⟨hm, hs, _, hp, _, _, _⟩ := h
  simp only [State.memoryOk, Memory.wf, Bool.and_eq_true] at hb hm
  refine ⟨?_, Sci.afterReset_ok _ _ hs.rxIdleOnes _, rfl, hp, rfl, .inl rfl, ?_, ?_⟩
  · simp only [State.memoryOk, Memory.wf, Bool.and_eq_true]
    exact ⟨Memory.wfWithin_either _ hb.1 hm.1, Memory.wfWithin_either _ hb.2 hm.2⟩
  · show (if s.pins.vcc then 1 else 0) ≤ 3
    split <;> omega
  · simp [State.heldOk, State.enterReset, Timer.afterReset, Sci.afterReset]

/-- The end of a step outside InReset. -/
theorem State.InStep.settle {before s : State} (hb : before.memoryOk = true) (h : s.InStep) :
    (if s.resetSeen then State.enterReset before s else s).powerEffects.ok = true := by
  apply State.Settled.powerEffects
  split
  · exact h.enterReset hb
  · rename_i hseen
    rw [Bool.not_eq_true] at hseen
    refine ⟨h.memory, h.sci, h.directions, h.mode, hseen, .inr (h.honoured hseen), h.resetCycles, ?_⟩
    simp [State.heldOk, h.run]

/-! ### A step in reset -/

/-- The state that the rising edge of RESET leaves, before the E cycles to the first fetch, is one inside a step. -/
theorem State.release_inStep {s : State} (hm : s.memoryOk = true) (hpins : s.pins.reset = true ∧ s.pins.vcc = true)
    (hmode : s.pins.p2.getLsbD 1 = true) : s.release.InStep := by
  have hones (n : Nat) : n % 11 ≤ 10 := Nat.le_of_lt_succ (Nat.mod_lt n (by omega))
  refine State.InStep.reaches (free := false) ?_ (Reaches.refl.ticks _)
  exact ⟨hm, Sci.afterReset_ok _ _ (hones _) _, rfl, hmode, nofun, Nat.zero_le _, fun _ => hpins⟩

/-- In reset no device runs, so the devices stay at their reset values; the rising edge releases, with P21 high. -/
theorem State.Settled.stepInReset {s t : State} (h : s.Settled) (hrun : s.run = .inReset) (ht : s.stepInReset = .next t) :
    (if t.resetSeen then State.enterReset s t else t).powerEffects.ok = true := by
  obtain ⟨hm, hs, hd, hp, _, _, hcyc, hheld⟩ := h
  have hstay (n : Nat) (hn : n ≤ 3) :
      ({ s.sample with resetSeen := false, resetCycles := n } : State).powerEffects.ok = true :=
    State.Settled.powerEffects ⟨hm, hs, hd, hp, rfl, .inl hrun, hn, hheld⟩
  unfold State.stepInReset at ht
  dsimp only at ht
  split at ht
  · cases ht
    exact hstay 0 (by omega)
  · split at ht
    · cases ht
      exact hstay _ (Nat.min_le_left _ _)
    · split at ht
      · cases ht
      · split at ht
        · cases ht
        · cases ht
          rename_i hvcc hreset _ hmode
          simp only [Bool.not_eq_true', Bool.not_eq_false] at hvcc hreset hmode
          exact (State.release_inStep (s := { s.sample with resetSeen := false }) hm ⟨hreset, hvcc⟩ hmode).settle hm

/-! ### The statements -/

theorem step_eq_next {s u : State} (h : step s = .next u) :
    ∃ t, s.stepByRunState = .next t ∧ u = (if t.resetSeen then State.enterReset s t else t).powerEffects := by
  unfold step settle at h
  split at h
  · cases h
    exact ⟨_, ‹_›, rfl⟩
  · cases h
  · cases h

/-- Settles O59: in reset the devices are held; outside it every operation of the step keeps what holds inside a step, and
the end of the step gives the invariant back. -/
theorem stepKeepsInvariant : Obligations.StepKeepsInvariant := by
  unfold Obligations.StepKeepsInvariant
  intro s u hs hstep
  obtain ⟨t, ht, rfl⟩ := step_eq_next hstep
  obtain ⟨hset, -, -⟩ := s.ok_iff.1 hs
  by_cases hrun : s.run = .inReset
  · rw [State.stepByRunState, hrun] at ht
    exact hset.stepInReset hrun ht
  · have hin : s.InStep := ⟨hset.memory, hset.sci, hset.directions, hset.mode, hrun, hset.resetCycles,
      fun _ => hset.honoured.resolve_left hrun⟩
    exact (hin.stepByRunState ht).settle hset.memory

/-- Settles O60: no byte is listed, no frame is in progress, nothing is forced, the mode is 2 and RESET high. -/
theorem resetMeetsInvariant : Obligations.ResetMeetsInvariant :=
  (State.ok_iff _).2
    ⟨⟨rfl, Sci.afterReset_ok _ _ (Nat.zero_le _) _, rfl, rfl, rfl, .inr ⟨rfl, rfl⟩, Nat.zero_le _, rfl⟩, rfl, rfl⟩

end Sys2Proof.Machine
end


section
/-! PROOF. Stores (42_logic_shift_move, 40_index_stack): what reads and writes one after the other make of the machine, then
the statements O13, O20, O22 and O26. -/

namespace Sys2Proof.Machine

/-! ### The address decoder across a write -/

/-- Only $80 to $FF depend on the mode and on RAME (R84). -/
theorem State.region_of_outside (s t : State) {a : Addr} (h : a.toNat < 0x80 ∨ 0xFF < a.toNat) : t.region a = s.region a := by
  rcases h with h | h
  · exact State.region_of_low s t h
  · unfold State.region
    simp only [show ∀ p : Prop, (0x80 ≤ a.toNat ∧ a.toNat ≤ 0xFF ∧ p) = False from fun p => by simp; omega, if_false]

/-- Only a write of $14 can change RAME. -/
theorem State.storeAt_rame {s : State} {a : Addr} (h : a ≠ 0x14#16) (v : Byte) :
    (s.storeAt a v).ramcr.rame = s.ramcr.rame := by
  unfold State.storeAt State.extWrite State.registerWrite State.withSci
  split
  · split
    case h_11 hk => exact absurd (BitVec.eq_of_toNat_eq hk) h
    all_goals rfl
  · split <;> rfl
  · rfl
  · rfl

/-- A write sends no address elsewhere, unless it is one of $14 and the address is where the internal RAM can be. -/
theorem State.busWrite_region {s : State} {a b : Addr} (h : (b.toNat < 0x80 ∨ 0xFF < b.toNat) ∨ a ≠ 0x14#16) (v : Byte) :
    (s.busWrite a v).region b = s.region b := by
  rcases h with h | h
  · exact State.region_of_outside _ _ h
  · refine State.region_congr (s.busWrite_pc1 a v) (s.busWrite_pc0 a v) ?_ b
    exact (State.storeAt_rame h v).trans (s.tickWith_rame _)

/-! ### Reads and writes one after the other -/

/-- From `s` to `t` the reads that look at devices are among `reads`, the bytes stored are `vs`, one after the other, and `n`
E cycles pass; the MPU registers are free. -/
structure Writes (reads : List Addr) (n : Nat) (vs : List (Addr × Byte)) (s t : State) : Prop where
  control : SameControl s t
  memory : t.memoryOk = true
  stores : Stores vs s t
  region : ∀ a : Addr, (a.toNat < 0x80 ∨ 0xFF < a.toNat) ∨ (0x14#16 : Addr) ∉ vs.map (·.1) → t.region a = s.region a
  ports : (∀ p ∈ vs, s.plain p.1 = true) → SamePorts s t
  time : (∀ a ∈ reads, quietRead a = true) → (∀ p ∈ vs, s.plain p.1 = true) → TimeOnly n s t

namespace Writes

variable {reads : List Addr} {n : Nat} {vs : List (Addr × Byte)} {s t : State}

theorem refl (h : s.memoryOk = true) : Writes reads 0 [] s s :=
  ⟨(ReadsOnly.refl s).control, h, .nil (.refl s), fun _ _ => rfl, fun _ => ⟨rfl, rfl⟩, fun _ _ => .zero s⟩

/-- Reads after the writes. -/
theorem reading {u : State} {m : Nat} (h : Writes reads n vs s t) (hr : ReadsOnly t u)
    (ht : (∀ a ∈ reads, quietRead a = true) → TimeOnly n s t → TimeOnly (n + m) s u) : Writes reads (n + m) vs s u := by
  obtain ⟨⟨c1, c2, c3, c4, c5, c6⟩, hm, hs, hreg, hp, htime⟩ := h
  obtain ⟨d1, d2, d3, d4, d5, d6⟩ := hr.control
  refine ⟨⟨d1.trans c1, d2.trans c2, d3.trans c3, d4.trans c4, d5.trans c5, d6.trans c6⟩,
    (State.memoryOk_congr hr.ext hr.ram).trans hm, hs.congr hr.memory, fun a ha => (hr.region a).trans (hreg a ha), ?_, ?_⟩
  · intro hplain
    obtain ⟨p1, p2⟩ := hp hplain
    exact ⟨hr.ports.1.trans p1, hr.ports.2.trans p2⟩
  · exact fun hq hplain => ht hq (htime hq hplain)

theorem idle (h : Writes reads n vs s t) : Writes reads (n + 1) vs s t.busIdle :=
  h.reading (State.busIdle_readsOnly t) fun _ ht => ht.tick

theorem discard (h : Writes reads n vs s t) {a : Addr} (ha : a ∈ reads) : Writes reads (n + 1) vs s (t.busDiscard a) :=
  h.reading (State.busDiscard_readsOnly a t) fun hq ht => ht.discard (hq a ha)

theorem read (h : Writes reads n vs s t) {a : Addr} (ha : a ∈ reads) : Writes reads (n + 1) vs s (t.busRead a).2 :=
  h.discard ha

theorem lead (h : s.memoryOk = true) (o : Mem) : Writes reads o.leadCycles [] s (o.lead s) := by
  cases o with
  | dir _ | ext _ => exact .refl h
  | idx _ => exact (refl h).idle

theorem withCpu (h : Writes reads n vs s t) (c : Cpu) : Writes reads n vs s { t with cpu := c } := by
  obtain ⟨hc, hm, hs, hreg, hp, ht⟩ := h
  exact ⟨hc, hm, hs, hreg, hp, fun hq hplain => (ht hq hplain).change c t.run t.irqHoldoff t.ext t.ram⟩

theorem withCcr (h : Writes reads n vs s t) (f : Ccr) : Writes reads n vs s (t.withCcr f) := h.withCpu _

/-- Where all that is stored goes to memory, the decoder sends every address as before. -/
theorem region_of_plain (h : Writes reads n vs s t) (hplain : ∀ p ∈ vs, s.plain p.1 = true) (a : Addr) :
    t.region a = s.region a :=
  State.region_congr h.control.2.2.1 h.control.2.2.2.1 (h.ports hplain).2 a

/-- One more byte, at an address not stored to before and where the decoder sends it as at the start. -/
theorem write (h : Writes reads n vs s t) {a : Addr} (ha : a ∉ vs.map (·.1))
    (hr : (a.toNat < 0x80 ∨ 0xFF < a.toNat) ∨ (0x14#16 : Addr) ∉ vs.map (·.1)) (v : Byte) :
    Writes reads (n + 1) (vs ++ [(a, v)]) s (t.busWrite a v) := by
  have hplain (hvs : ∀ p ∈ vs ++ [(a, v)], s.plain p.1 = true) :
      (∀ p ∈ vs, s.plain p.1 = true) ∧ t.plain a = true := by
    have hbefore : ∀ p ∈ vs, s.plain p.1 = true := fun p hp => hvs p (List.mem_append_left _ hp)
    refine ⟨hbefore, ?_⟩
    rw [State.plain, h.region_of_plain hbefore]
    exact hvs (a, v) (List.mem_append_right _ (List.mem_singleton_self _))
  obtain ⟨⟨c1, c2, c3, c4, c5, c6⟩, hm, hs, hreg, hp, ht⟩ := h
  refine ⟨⟨(t.busWrite_run a v).trans c1, (t.busWrite_irqHoldoff a v).trans c2, (t.busWrite_pc1 a v).trans c3,
    (t.busWrite_pc0 a v).trans c4, (t.busWrite_resetCycles a v).trans c5, (t.busWrite_extMap a v).trans c6⟩,
    State.memoryOk_busWrite hm a v, hs.snoc hm ha (hreg a hr) c6 v, ?_, ?_, ?_⟩
  · intro b hb
    rw [List.map_append, List.mem_append, not_or] at hb
    refine (State.busWrite_region ?_ v).trans (hreg b (hb.imp_right And.left))
    refine hb.imp_right fun hne => ?_
    rintro rfl
    exact hne.2 (List.mem_singleton_self _)
  · intro hvs
    obtain ⟨hbefore, hta⟩ := hplain hvs
    obtain ⟨p1, p2⟩ := hp hbefore
    have hu : (t.tickWith (a == 0x0009#16)).plain a = true := by rwa [State.plain, t.tickWith_region]
    rw [State.busWrite, State.storeAt_of_plain hu]
    exact ⟨(t.tickWith_ports _).trans p1, (t.tickWith_rame _).trans p2⟩
  · intro hq hvs
    obtain ⟨hbefore, hta⟩ := hplain hvs
    exact (ht hq hbefore).write hta v

/-- The first byte. -/
theorem write_first (h : Writes reads n [] s t) (a : Addr) (v : Byte) : Writes reads (n + 1) [(a, v)] s (t.busWrite a v) :=
  h.write List.not_mem_nil (.inr List.not_mem_nil) v

/-- Two bytes, the second at the next higher address. -/
theorem write16 (h : Writes reads n [] s t) (a : Addr) (v : Word) :
    Writes reads (n + 2) [(a, hi v), (a + 1, lo v)] s (t.busWrite16 a v) := by
  refine (h.write_first a (hi v)).write (by simp) ?_ (lo v)
  by_cases ha : a = 0x14#16
  · subst ha
    exact .inl (.inl (by decide))
  · exact .inr (by simpa using Ne.symm ha)

end Writes

/-- An instruction that answers with reads and writes from `s` completes, storing what it has written. -/
theorem CompletesStoring.of_writes {i : Instr} {s t : State} {vs : List (Addr × Byte)} {reads : List Addr} {cpu : Cpu}
    (he : exec i s = .next t) (hcpu : t.cpu = cpu) (h : Writes reads (cyclesLeft i) vs s t) :
    CompletesStoring i s cpu vs reads :=
  ⟨t, he, hcpu, h.control, h.stores, h.ports, h.time⟩

/-! ### One operand, in memory -/

theorem cyclesLeft_tstInstr (o : Far) : cyclesLeft (tstInstr o) = o.mem.leadCycles + 3 := by cases o <;> rfl

theorem memInstr_completes {o : Far} {s : State} (hm : s.memoryOk = true) (hfree : isReserved (o.mem.ea s) = false)
    (k : UnOp) :
    CompletesStoring (memInstr k o) s (s.cpu.setCcr (k.op s.cpu.ccr (o.mem.read8 s).1).2)
      [(o.mem.ea s, (k.op s.cpu.ccr (o.mem.read8 s).1).1)] [o.mem.ea s] := by
  have hread : Writes [o.mem.ea s] (o.mem.leadCycles + 1) [] s (o.mem.read8 s).2 :=
    (Writes.lead hm o.mem).read (List.mem_singleton_self _)
  have hwrite := hread.idle.write_first (o.mem.ea s) (k.op s.cpu.ccr (o.mem.read8 s).1).1
  refine .of_writes ((exec_memInstr k o s).trans (guardBus_of (by simpa using hfree))) ?_ ?_
  · rw [State.withCcr_eq, State.busWrite_cpu, State.busIdle_cpu, (o.mem.read8_readsOnly s).cpu]
  · rw [cyclesLeft_memInstr]
    exact hwrite.withCcr _

theorem tstInstr_completes {o : Far} {s : State} (hfree : isReserved (o.mem.ea s) = false) :
    Completes (tstInstr o) s (s.cpu.setCcr (tstFlags s.cpu.ccr (o.mem.read8 s).1)) [o.mem.ea s] := by
  have hr := ((o.mem.read8_readsOnly s).trans (State.busIdle_readsOnly _)).trans (State.busIdle_readsOnly _)
  refine Completes.intro hr ?_ fun hq => ?_
  · rw [exec_tstInstr, memTest, guardBus_of (by simpa using hfree), State.withCcr_eq, hr.cpu]
  · rw [cyclesLeft_tstInstr]
    exact (o.mem.read8_time s (hq _ (List.mem_singleton_self _))).tick.tick

/-- Settles O13: read, idle, write; TST has two idle cycles instead. -/
theorem memUnaryCompletes : Obligations.MemUnaryCompletes := by
  unfold Obligations.MemUnaryCompletes
  intro o s hm hfree
  constructor
  · intro k
    rw [← k.op_eq]
    exact memInstr_completes hm hfree k
  · rw [← tstFlags_eq]
    exact tstInstr_completes hfree

/-! ### Registers stored -/

/-- Settles O20: the leading cycles, then one write or two. -/
theorem storesComplete : Obligations.StoresComplete := by
  unfold Obligations.StoresComplete
  intro o s hm hfree
  have hlead : Writes [] o.leadCycles [] s (o.lead s) := Writes.lead hm o
  have hcpu := (o.lead_readsOnly s).cpu
  constructor
  · intro r
    refine .of_writes ((exec_storeAccInstr r o s).trans (guardBus_of (by simpa using hfree))) ?_ ?_
    · rw [State.withCcr_eq, Mem.write8, State.busWrite_cpu, hcpu, moveFlags8_eq]
    · rw [cyclesLeft_storeAccInstr]
      exact (hlead.write_first (o.ea s) (s.acc r)).withCcr _
  · intro hfree1 r
    rw [← hi_eq_ofNat, ← lo_eq_ofNat]
    refine .of_writes ((exec_storeInstr r o s).trans (guardBus_of (by simpa [Mem.pair, hfree] using hfree1))) ?_ ?_
    · rw [State.withCcr_eq, Mem.write16, State.busWrite16, State.busWrite_cpu, State.busWrite_cpu, hcpu, moveFlags16_eq]
    · rw [cyclesLeft_storeInstr]
      exact (hlead.write16 (o.ea s) (s.reg16 r)).withCcr _

/-! ### Bytes pushed -/

/-- Where bytes pushed one after the other with SP at `p` are stored. -/
def stackCells (p : Addr) (bs : List Byte) : List (Addr × Byte) :=
  bs.zipIdx.map fun q => (p - BitVec.ofNat 16 q.2, q.1)

/-- Bytes pushed one after the other. -/
def State.pushAll (bs : List Byte) (s : State) : State := bs.foldl (fun t b => t.push8 b) s

theorem stackCells_snoc (p : Addr) (bs : List Byte) (b : Byte) :
    stackCells p (bs ++ [b]) = stackCells p bs ++ [(p - BitVec.ofNat 16 bs.length, b)] := by
  simp [stackCells, List.zipIdx_append]

theorem mem_stackCells_addr {p a : Addr} {bs : List Byte} (h : a ∈ (stackCells p bs).map (·.1)) :
    ∃ i < bs.length, a = p - BitVec.ofNat 16 i := by
  simp only [stackCells, List.map_map, List.mem_map, Function.comp_apply] at h
  obtain ⟨⟨b, i⟩, hmem, rfl⟩ := h
  exact ⟨i, (List.mem_zipIdx' hmem).1, rfl⟩

theorem State.pushAll_snoc (bs : List Byte) (b : Byte) (s : State) : s.pushAll (bs ++ [b]) = (s.pushAll bs).push8 b :=
  List.foldl_append

theorem State.pushAll_cpu (bs : List Byte) (s : State) :
    (s.pushAll bs).cpu = { s.cpu with sp := s.cpu.sp - BitVec.ofNat 16 bs.length } := by
  induction bs using List.reverseRecOn with
  | nil => simp [State.pushAll]
  | append_singleton bs b ih =>
    rw [State.pushAll_snoc, State.push8_cpu, ih, List.length_append, List.length_singleton, BitVec.ofNat_add,
      ← BitVec.sub_sub]
    rfl

/-- As many as an interrupt stacks, bytes pushed are stored from SP downwards. -/
theorem Writes.pushAll {reads : List Addr} {n : Nat} {s t : State} (h : Writes reads n [] s t) (bs : List Byte)
    (hlen : bs.length ≤ 7) : Writes reads (n + bs.length) (stackCells t.cpu.sp bs) s (t.pushAll bs) := by
  induction bs using List.reverseRecOn with
  | nil => exact h
  | append_singleton bs b ih =>
    rw [List.length_append, List.length_singleton] at hlen
    have hsp : (t.pushAll bs).cpu.sp = t.cpu.sp - BitVec.ofNat 16 bs.length := by rw [State.pushAll_cpu]
    have hfresh : t.cpu.sp - BitVec.ofNat 16 bs.length ∉ (stackCells t.cpu.sp bs).map (·.1) := by
      intro hmem
      obtain ⟨i, hi, heq⟩ := mem_stackCells_addr hmem
      rw [BitVec.sub_right_inj, ← BitVec.toNat_inj, BitVec.toNat_ofNat, BitVec.toNat_ofNat] at heq
      omega
    have hregion : ((t.cpu.sp - BitVec.ofNat 16 bs.length).toNat < 0x80 ∨
        0xFF < (t.cpu.sp - BitVec.ofNat 16 bs.length).toNat) ∨ (0x14#16 : Addr) ∉ (stackCells t.cpu.sp bs).map (·.1) := by
      by_cases hmem : (0x14#16 : Addr) ∈ (stackCells t.cpu.sp bs).map (·.1)
      · obtain ⟨i, hi, heq⟩ := mem_stackCells_addr hmem
        rw [← BitVec.toNat_inj, BitVec.toNat_sub, BitVec.toNat_ofNat, BitVec.toNat_ofNat] at heq
        rw [BitVec.toNat_sub, BitVec.toNat_ofNat]
        omega
      · exact .inr hmem
    rw [State.pushAll_snoc, stackCells_snoc, List.length_append, List.length_singleton, ← Nat.add_assoc, ← hsp]
    rw [← hsp] at hfresh hregion
    exact ((ih (by omega)).write hfresh hregion b).withCpu _

/-- The seven bytes of an interrupt are those of the registers before the stacking: a push changes SP alone. -/
theorem State.pushFrame_eq (s : State) :
    s.pushFrame =
      s.pushAll [lo s.cpu.pc, hi s.cpu.pc, lo s.cpu.x, hi s.cpu.x, s.cpu.a, s.cpu.b, s.cpu.ccr.toByte] := by
  simp [State.pushFrame, State.pushAll, State.push16]

theorem frameBytes_eq (s : State) :
    frameBytes s =
      stackCells s.cpu.sp [lo s.cpu.pc, hi s.cpu.pc, lo s.cpu.x, hi s.cpu.x, s.cpu.a, s.cpu.b, s.cpu.ccr.toByte] := by
  simp [frameBytes, stackCells]

/-! ### Pushes and calls -/

theorem exec_pshInstr (r : Acc) (s : State) :
    exec (pshInstr r) s = guardBus [s.cpu.sp] (s.nextByte.push8 (s.acc r)) := by
  cases r <;> rfl

theorem cyclesLeft_pshInstr (r : Acc) : cyclesLeft (pshInstr r) = 2 := by cases r <;> rfl

theorem exec_pshx (s : State) : exec .pshx s = guardBus [s.cpu.sp, s.cpu.sp - 1] (s.nextByte.push16 s.cpu.x) := rfl

/-- The cycle before the stacking, a discarded read of the next byte. -/
theorem Writes.nextByte {s : State} (hm : s.memoryOk = true) : Writes [s.cpu.pc] 1 [] s s.nextByte :=
  (Writes.refl hm).discard (List.mem_singleton_self _)

/-- A word pushed: low byte at SP, high byte below it. -/
theorem Writes.push16 {reads : List Addr} {n : Nat} {s t : State} (h : Writes reads n [] s t) (hsp : t.cpu.sp = s.cpu.sp)
    (v : Word) :
    Writes reads (n + 2)
      [(s.cpu.sp, BitVec.ofNat 8 (v.toNat % 256)), (s.cpu.sp - 1, BitVec.ofNat 8 (v.toNat / 256))] s (t.push16 v) := by
  have hcells : stackCells s.cpu.sp [lo v, hi v] =
      [(s.cpu.sp, BitVec.ofNat 8 (v.toNat % 256)), (s.cpu.sp - 1, BitVec.ofNat 8 (v.toNat / 256))] := by
    simp [stackCells, lo_eq_ofNat, hi_eq_ofNat]
  rw [← hcells, ← hsp]
  exact h.pushAll [lo v, hi v] (by simp)

theorem State.push16_cpu (v : Word) (s : State) : (s.push16 v).cpu = { s.cpu with sp := s.cpu.sp - 2 } :=
  State.pushAll_cpu [lo v, hi v] s

/-- Settles O22: a discarded read, then one push or two. -/
theorem pushesComplete : Obligations.PushesComplete := by
  unfold Obligations.PushesComplete
  intro s hm hfree
  have hnext := Writes.nextByte hm
  have hcpu := s.nextByte_readsOnly.cpu
  constructor
  · intro r
    refine .of_writes ((exec_pshInstr r s).trans (guardBus_of (by simpa using hfree))) ?_ ?_
    · rw [State.push8_cpu, hcpu]
    · rw [cyclesLeft_pshInstr, State.push8, hcpu]
      exact (hnext.write_first s.cpu.sp (s.acc r)).withCpu _
  · intro hfree1
    refine .of_writes ((exec_pshx s).trans (guardBus_of (by simpa [hfree] using hfree1))) ?_ ?_
    · rw [State.push16_cpu, hcpu]
    · exact hnext.push16 (congrArg Cpu.sp hcpu) s.cpu.x

theorem cyclesLeft_jsrInstr (o : Mem) : cyclesLeft (jsrInstr o) = o.leadCycles + 1 + 2 := by cases o <;> rfl

/-- A call after reads: the target's first byte is read, the return address pushed, PC is the target. -/
theorem CompletesStoring.of_callTo {i : Instr} {n : Nat} {s t : State} {target : Addr}
    (he : exec i s = callTo target t) (hc : cyclesLeft i = n + 1 + 2) (hr : ReadsOnly s t) (hw : Writes [target] n [] s t)
    (hfree : isReserved s.cpu.sp = false) (hfree1 : isReserved (s.cpu.sp - 1) = false) :
    CompletesStoring i s { s.cpu with pc := target, sp := s.cpu.sp - 2 }
      [(s.cpu.sp, BitVec.ofNat 8 (s.cpu.pc.toNat % 256)), (s.cpu.sp - 1, BitVec.ofNat 8 (s.cpu.pc.toNat / 256))]
      [target] := by
  have hcpu : (t.busDiscard target).cpu = s.cpu := (t.busDiscard_cpu target).trans hr.cpu
  refine .of_writes (t := ((t.busDiscard target).push16 t.cpu.pc).withPc target) (he.trans (guardBus_of ?_)) ?_ ?_
  · rw [hr.cpu]
    simpa [addrsDown, hfree] using hfree1
  · rw [State.withPc, State.push16_cpu, hcpu]
  · rw [hc, hr.cpu]
    exact ((hw.discard (List.mem_singleton_self _)).push16 (congrArg Cpu.sp hcpu) s.cpu.pc).withCpu _

theorem jsrInstr_completes (o : Mem) {s : State} (hm : s.memoryOk = true) (hfree : isReserved s.cpu.sp = false)
    (hfree1 : isReserved (s.cpu.sp - 1) = false) :
    CompletesStoring (jsrInstr o) s { s.cpu with pc := o.ea s, sp := s.cpu.sp - 2 }
      [(s.cpu.sp, BitVec.ofNat 8 (s.cpu.pc.toNat % 256)), (s.cpu.sp - 1, BitVec.ofNat 8 (s.cpu.pc.toNat / 256))]
      [o.ea s] :=
  .of_callTo (exec_jsrInstr o s) (cyclesLeft_jsrInstr o) (o.lead_readsOnly s) (.lead hm o) hfree hfree1

theorem exec_bsr (rel : Byte) (s : State) : exec (.bsr rel) s = callTo (s.cpu.pc + sext16 rel) s.busIdle := rfl

/-- Settles O26: JSR after the leading cycles of its operand, BSR after an idle cycle. -/
theorem callsComplete : Obligations.CallsComplete := by
  unfold Obligations.CallsComplete
  intro s hm hfree hfree1
  refine ⟨fun o => jsrInstr_completes o hm hfree hfree1, fun rel => ?_⟩
  rw [← add_sext16]
  exact .of_callTo (n := 1) (exec_bsr rel s) rfl (State.busIdle_readsOnly s) (Writes.refl hm).idle hfree hfree1

end Sys2Proof.Machine
end


section
/-! PROOF. The stack and the software interrupts (42_logic_shift_move, 43_jump_branch): pulls, SWI, WAI and RTI, then the
statements O23 and O27 to O31. -/

namespace Sys2Proof.Machine

/-! ### Pulls -/

/-- `t` is `s` after bus reads only, the MPU registers apart. -/
def ReadsApart (s t : State) : Prop := ReadsOnly s { t with cpu := s.cpu }

theorem ReadsOnly.apart {s t : State} (h : ReadsOnly s t) : ReadsApart s t := ⟨rfl, h.control, h.ports, h.ext, h.ram⟩

namespace ReadsApart

variable {s t u : State}

theorem withCpu (h : ReadsApart s t) (c : Cpu) : ReadsApart s { t with cpu := c } := h

theorem reading (h : ReadsApart s t) (k : ReadsOnly t u) : ReadsApart s u :=
  ReadsOnly.trans h ⟨rfl, k.control, k.ports, k.ext, k.ram⟩

theorem readable (h : ReadsApart s t) (a : Addr) : t.readable a = s.readable a := ReadsOnly.readable h a

theorem peek (h : ReadsApart s t) (a : Addr) : t.peek a = s.peek a := ReadsOnly.peek h a

theorem pull8 (h : ReadsApart s t) : ReadsApart s t.pull8.2 :=
  (h.withCpu { t.cpu with sp := t.cpu.sp + 1 }).reading (State.busRead_readsOnly (t.cpu.sp + 1) (t.withSp (t.cpu.sp + 1)))

theorem pull16 (h : ReadsApart s t) : ReadsApart s t.pull16.2 := h.pull8.pull8

/-- A byte pulled from memory is the one that was there at first. -/
theorem pull8_value (h : ReadsApart s t) (hr : s.readable (t.cpu.sp + 1) = true) : t.pull8.1 = s.peek (t.cpu.sp + 1) :=
  (State.pull8_of_readable ((h.readable _).trans hr)).trans (h.peek _)

theorem pull16_value (h : ReadsApart s t) (hr : s.readable (t.cpu.sp + 1) = true)
    (hr1 : s.readable (t.cpu.sp + 1 + 1) = true) : t.pull16.1 = s.peek16 (t.cpu.sp + 1) := by
  have hsp : t.pull8.2.cpu.sp = t.cpu.sp + 1 := by rw [State.pull8_cpu]
  have hlow := h.pull8.pull8_value (by rwa [hsp])
  rw [hsp] at hlow
  exact congrArg₂ join (h.pull8_value hr) hlow

end ReadsApart

theorem State.pull16_cpu (s : State) : s.pull16.2.cpu = { s.cpu with sp := s.cpu.sp + 1 + 1 } := by
  show s.pull8.2.pull8.2.cpu = _
  rw [State.pull8_cpu, State.pull8_cpu]

theorem TimeOnly.pull16 {n : Nat} {s t : State} (h : TimeOnly n s t) (h1 : quietRead (t.cpu.sp + 1) = true)
    (h2 : quietRead (t.cpu.sp + 1 + 1) = true) : TimeOnly (n + 2) s t.pull16.2 :=
  State.pull8_time (State.pull8_time h h1) (by rw [State.pull8_cpu]; exact h2)

theorem TimeOnly.withCpu {n : Nat} {s t : State} (h : TimeOnly n s t) (c : Cpu) : TimeOnly n s { t with cpu := c } :=
  h.change c t.run t.irqHoldoff t.ext t.ram

theorem TimeOnly.withRun {n : Nat} {s t : State} (h : TimeOnly n s t) (r : RunState) : TimeOnly n s { t with run := r } :=
  h.change t.cpu r t.irqHoldoff t.ext t.ram

/-- An instruction that answers a state read from `s`, the MPU registers apart, completes. -/
theorem Completes.of_apart {i : Instr} {s t : State} {cpu : Cpu} {reads : List Addr} (he : exec i s = .next t)
    (hcpu : t.cpu = cpu) (hr : ReadsApart s t) (ht : (∀ a ∈ reads, quietRead a = true) → TimeOnly (cyclesLeft i) s t) :
    Completes i s cpu reads :=
  ⟨t, he, hcpu, hr.control, hr.ports, SameMemory.of_eq hr.ext hr.ram, ht⟩

theorem State.beforePull_cpu (s : State) : s.beforePull.cpu = s.cpu := s.beforePull_readsOnly.cpu

theorem exec_pulInstr (r : Acc) (s : State) :
    exec (pulInstr r) s = guardBus [s.cpu.sp + 1] (s.beforePull.pull8.2.withAcc r s.beforePull.pull8.1) := by
  cases r <;> rfl

theorem cyclesLeft_pulInstr (r : Acc) : cyclesLeft (pulInstr r) = 3 := by cases r <;> rfl

theorem State.withAcc_eq (s : State) (r : Acc) (v : Byte) : s.withAcc r v = { s with cpu := s.cpu.setAcc r v } := by
  cases r <;> rfl

theorem exec_pulx (s : State) :
    exec .pulx s = guardBus (addrsUp 2 (s.cpu.sp + 1)) (s.beforePull.pull16.2.withX s.beforePull.pull16.1) := rfl

theorem exec_rts (s : State) :
    exec .rts s = guardBus (addrsUp 2 (s.cpu.sp + 1)) (s.beforePull.pull16.2.withPc s.beforePull.pull16.1) := rfl

theorem word_add_two (p : Word) : p + 2 = p + 1 + 1 := by bv_omega

/-- Settles O23: after two discarded reads, a pull or two; the values are those the reads give. -/
theorem pullsComplete : Obligations.PullsComplete := by
  unfold Obligations.PullsComplete
  intro s hfree
  have hcpu := s.beforePull_cpu
  have hr := s.beforePull_readsOnly.apart
  constructor
  · intro r
    refine ⟨s.beforePull.pull8.1, ?_, fun hread => ?_⟩
    · refine .of_apart ((exec_pulInstr r s).trans (guardBus_of (by simpa using hfree))) ?_ ?_ fun hq => ?_
      · rw [State.withAcc_eq, State.pull8_cpu, hcpu]
      · rw [State.withAcc_eq]
        exact hr.pull8.withCpu _
      · rw [State.withAcc_eq, cyclesLeft_pulInstr]
        have hpull := State.pull8_time (State.beforePull_time (s := s) (hq _ (by simp)) (hq _ (by simp)))
          (by rw [hcpu]; exact hq _ (by simp))
        exact hpull.withCpu _
    · have hvalue := hr.pull8_value (by rwa [hcpu])
      rwa [hcpu] at hvalue
  · rw [word_add_two]
    intro hfree1
    have hguard : ∀ a ∈ addrsUp 2 (s.cpu.sp + 1), isReserved a = false := by simpa [addrsUp] using ⟨hfree, hfree1⟩
    have htime (hq : ∀ a ∈ [s.cpu.pc, s.cpu.sp, s.cpu.sp + 1, s.cpu.sp + 1 + 1], quietRead a = true) :
        TimeOnly 4 s s.beforePull.pull16.2 :=
      (State.beforePull_time (hq _ (by simp)) (hq _ (by simp))).pull16 (by rw [hcpu]; exact hq _ (by simp))
        (by rw [hcpu]; exact hq _ (by simp))
    refine ⟨s.beforePull.pull16.1, ?_, ?_, fun hread hread1 => ?_⟩
    · refine .of_apart ((exec_pulx s).trans (guardBus_of hguard)) ?_ (hr.pull16.withCpu _)
        fun hq => (htime hq).withCpu _
      rw [State.withX, State.pull16_cpu, hcpu]
    · refine .of_apart ((exec_rts s).trans (guardBus_of hguard)) ?_ (hr.pull16.withCpu _)
        fun hq => (htime hq).withCpu _
      rw [State.withPc, State.pull16_cpu, hcpu]
    · have hvalue := hr.pull16_value (by rwa [hcpu]) (by rwa [hcpu])
      rwa [hcpu] at hvalue

/-! ### RTI (R313) -/

theorem addrsUp_seven (p : Addr) : addrsUp 7 (p + 1) = [p + 1, p + 2, p + 3, p + 4, p + 5, p + 6, p + 7] := by
  simp [addrsUp, BitVec.add_assoc]

/-- The state in which RTI has made its seven reads. -/
def State.frameRead (s : State) : State := s.pull8.2.pull8.2.pull8.2.pull16.2.pull16.2

theorem State.pullFrame_eq (s : State) :
    s.pullFrame =
      { s.frameRead with
        cpu := { s.frameRead.cpu with
          ccr := Ccr.ofByte s.pull8.1
          b := s.pull8.2.pull8.1
          a := s.pull8.2.pull8.2.pull8.1
          x := s.pull8.2.pull8.2.pull8.2.pull16.1
          pc := s.pull8.2.pull8.2.pull8.2.pull16.2.pull16.1 } } := by
  rw [State.frameRead, State.pullFrame]

theorem State.frameRead_cpu (s : State) : s.frameRead.cpu = { s.cpu with sp := s.cpu.sp + 7 } := by
  have hsp : s.cpu.sp + 1 + 1 + 1 + 1 + 1 + 1 + 1 = s.cpu.sp + 7 := by bv_omega
  rw [State.frameRead, State.pull16_cpu, State.pull16_cpu, State.pull8_cpu, State.pull8_cpu, State.pull8_cpu, ← hsp]

theorem State.pullFrame_sp (s : State) : s.pullFrame.cpu.sp = s.cpu.sp + 7 := by
  rw [State.pullFrame_eq, State.frameRead_cpu]

theorem ReadsApart.pullFrame {s t : State} (h : ReadsApart s t) : ReadsApart s t.pullFrame :=
  (h.pull8.pull8.pull8.pull16.pull16 : ReadsApart s t.frameRead).withCpu _

theorem TimeOnly.pullFrame {n : Nat} {s t : State} (h : TimeOnly n s t)
    (hq : ∀ a ∈ addrsUp 7 (t.cpu.sp + 1), quietRead a = true) : TimeOnly (n + 7) s t.pullFrame := by
  have h1 := State.pull8_time h (hq _ (by simp [addrsUp]))
  have h2 := State.pull8_time h1 (by rw [State.pull8_cpu]; exact hq _ (by simp [addrsUp]))
  have h3 := State.pull8_time h2 (by rw [State.pull8_cpu, State.pull8_cpu]; exact hq _ (by simp [addrsUp]))
  have h4 := h3.pull16 (by rw [State.pull8_cpu, State.pull8_cpu, State.pull8_cpu]; exact hq _ (by simp [addrsUp]))
    (by rw [State.pull8_cpu, State.pull8_cpu, State.pull8_cpu]; exact hq _ (by simp [addrsUp]))
  have h5 := h4.pull16
    (by rw [State.pull16_cpu, State.pull8_cpu, State.pull8_cpu, State.pull8_cpu]; exact hq _ (by simp [addrsUp]))
    (by rw [State.pull16_cpu, State.pull8_cpu, State.pull8_cpu, State.pull8_cpu]; exact hq _ (by simp [addrsUp]))
  exact (h5 : TimeOnly (n + 7) s t.frameRead).withCpu _

/-- With the frame in memory, the registers pulled are the bytes there. -/
theorem ReadsApart.pullFrame_cpu {s t : State} {p : Addr} (h : ReadsApart s t) (hsp : t.cpu.sp = p)
    (hr : ∀ a ∈ addrsUp 7 (p + 1), s.readable a = true) :
    t.pullFrame.cpu =
      { ccr := Ccr.ofByte (s.peek (p + 1)), b := s.peek (p + 2), a := s.peek (p + 3), x := s.peek16 (p + 4),
        pc := s.peek16 (p + 6), sp := p + 7 } := by
  rw [addrsUp_seven] at hr
  simp only [List.forall_mem_cons] at hr
  obtain ⟨r1, r2, r3, r4, r5, r6, r7, -⟩ := hr
  have sp1 : t.pull8.2.cpu.sp = p + 1 := by rw [State.pull8_cpu, hsp]
  have sp2 : t.pull8.2.pull8.2.cpu.sp = p + 2 := by rw [State.pull8_cpu, sp1]; bv_omega
  have sp3 : t.pull8.2.pull8.2.pull8.2.cpu.sp = p + 3 := by rw [State.pull8_cpu, sp2]; bv_omega
  have sp5 : t.pull8.2.pull8.2.pull8.2.pull16.2.cpu.sp = p + 5 := by rw [State.pull16_cpu, sp3]; bv_omega
  have e2 : p + 1 + 1 = p + 2 := by bv_omega
  have e3 : p + 2 + 1 = p + 3 := by bv_omega
  have e4 : p + 3 + 1 = p + 4 := by bv_omega
  have e5 : p + 4 + 1 = p + 5 := by bv_omega
  have e6 : p + 5 + 1 = p + 6 := by bv_omega
  have e7 : p + 6 + 1 = p + 7 := by bv_omega
  have v1 := h.pull8_value (by rw [hsp]; exact r1)
  have v2 := h.pull8.pull8_value (by rw [sp1, e2]; exact r2)
  have v3 := h.pull8.pull8.pull8_value (by rw [sp2, e3]; exact r3)
  have v4 := h.pull8.pull8.pull8.pull16_value (by rw [sp3, e4]; exact r4) (by rw [sp3, e4, e5]; exact r5)
  have v6 := h.pull8.pull8.pull8.pull16.pull16_value (by rw [sp5, e6]; exact r6) (by rw [sp5, e6, e7]; exact r7)
  rw [hsp] at v1
  rw [sp1, e2] at v2
  rw [sp2, e3] at v3
  rw [sp3, e4] at v4
  rw [sp5, e6] at v6
  rw [State.pullFrame_eq, v1, v2, v3, v4, v6, State.frameRead_cpu, hsp]

theorem exec_rti (s : State) : exec .rti s = guardBus (addrsUp 7 (s.cpu.sp + 1)) s.beforePull.pullFrame := rfl

/-- Settles O30: two discarded reads, then the pulls. -/
theorem rtiCompletes : Obligations.RtiCompletes := by
  unfold Obligations.RtiCompletes
  intro s hfree
  have hcpu := s.beforePull_cpu
  have hr := s.beforePull_readsOnly.apart
  refine ⟨s.beforePull.pullFrame.cpu, ?_, ?_, fun hread => ?_⟩
  · refine .of_apart ((exec_rti s).trans (guardBus_of hfree)) rfl hr.pullFrame fun hq => ?_
    refine (State.beforePull_time (s := s) (hq _ (by simp)) (hq _ (by simp))).pullFrame ?_
    rw [hcpu]
    exact fun a ha => hq a (List.mem_append_right _ ha)
  · rw [State.pullFrame_sp, hcpu]
  · rw [hr.pullFrame_cpu (congrArg Cpu.sp hcpu) hread]
    exact ⟨rfl, rfl, rfl, rfl, rfl⟩

/-! ### SWI and WAI (R314, R318) -/

theorem frameAddrs_eq (s : State) : s.frameAddrs = (frameBytes s).map (·.1) := by
  simp [State.frameAddrs, addrsDown, frameBytes, BitVec.sub_sub]

/-- The addresses of a frame in memory, for the bytes stored there. -/
theorem frameBytes_of_frameAddrs {s : State} {p : Addr → Prop} (h : ∀ a ∈ s.frameAddrs, p a) :
    ∀ q ∈ frameBytes s, p q.1 := by
  rw [frameAddrs_eq] at h
  exact fun q hq => h q.1 (List.mem_map_of_mem hq)

/-- The stacking of seven bytes, after reads. -/
theorem Writes.pushFrame {reads : List Addr} {n : Nat} {s t : State} (h : Writes reads n [] s t) (hcpu : t.cpu = s.cpu) :
    Writes reads (n + 7) (frameBytes s) s t.pushFrame := by
  rw [State.pushFrame_eq, frameBytes_eq, hcpu]
  have hpush := h.pushAll [lo s.cpu.pc, hi s.cpu.pc, lo s.cpu.x, hi s.cpu.x, s.cpu.a, s.cpu.b, s.cpu.ccr.toByte] (by simp)
  rwa [hcpu] at hpush

theorem State.pushFrame_cpu (s : State) : s.pushFrame.cpu = { s.cpu with sp := s.cpu.sp - 7 } := by
  rw [State.pushFrame_eq, State.pushAll_cpu]
  rfl

theorem exec_wai (s : State) : exec .wai s = guardBus s.frameAddrs { s.nextByte.pushFrame with run := .waiting } := rfl

/-- Settles O29: the stacking after a discarded read, then the wait. -/
theorem waiCompletes : Obligations.WaiCompletes := by
  unfold Obligations.WaiCompletes
  intro s hm hfree
  have hnext := s.nextByte_readsOnly.cpu
  have hw := (Writes.nextByte hm).pushFrame hnext
  have hcpu := s.nextByte.pushFrame_cpu
  have hexec := (exec_wai s).trans (guardBus_of hfree)
  rw [hnext] at hcpu
  generalize s.nextByte.pushFrame = t at hw hcpu hexec
  refine ⟨_, hexec, hw.stores, rfl, hcpu, hw.control.2.1, fun hplain hq => ?_⟩
  have hvs := frameBytes_of_frameAddrs hplain
  exact ⟨hw.ports hvs, (hw.time (by simpa using hq) hvs).withRun _⟩

/-! ### Time across an entry -/

/-- `n` E cycles do not look at the MPU registers, the run state, the hold-off or memory. -/
theorem State.ticks_congr (n : Nat) (s : State) (c : Cpu) (r : RunState) (i : Bool) (e m : Memory) :
    State.ticks n { s with cpu := c, run := r, irqHoldoff := i, ext := e, ram := m } =
      { s.ticks n with cpu := c, run := r, irqHoldoff := i, ext := e, ram := m } := by
  induction n generalizing s with
  | zero => rfl
  | succ n ih => exact (congrArg (State.ticks n) (State.tickWith_congr s false c r i e m)).trans (ih s.tick)

theorem TimeOnly.exists_eq {n : Nat} {s t : State} (h : TimeOnly n s t) :
    ∃ c r i e m, t = { s.ticks n with cpu := c, run := r, irqHoldoff := i, ext := e, ram := m } :=
  ⟨_, _, _, _, _, h⟩

/-- After `n` E cycles an NMI that is taken is cleared, and two more pass for the vector; the rest is MPU and memory. -/
def EntryTime (n : Nat) (nmi : Bool) (s t : State) : Prop :=
  t = { State.ticks 2 { s.ticks n with nmiPending := (s.ticks n).nmiPending && !nmi } with
    cpu := t.cpu, run := t.run, irqHoldoff := t.irqHoldoff, ext := t.ext, ram := t.ram }

theorem EntryTime.timeOnly {n : Nat} {s t : State} (h : EntryTime n false s t) : TimeOnly (n + 2) s t := by
  unfold EntryTime at h
  unfold TimeOnly
  rw [Bool.not_false, Bool.and_true] at h
  rw [State.ticks_add]
  exact h

/-- A read of two quiet bytes is two E cycles. -/
theorem State.busRead16_of_quiet {s : State} {a : Addr} (h : quietRead a = true) (h1 : quietRead (a + 1) = true) :
    (s.busRead16 a).2 = s.ticks 2 := by
  have hlow (u : State) : (u.busRead (a + 1)).2 = u.tick := State.readEffect_of_quiet _ h1
  have hhigh : (s.busRead a).2 = s.tick := State.readEffect_of_quiet _ h
  exact (hlow _).trans (congrArg State.tick hhigh)

/-- The end of an entry, after time alone. -/
theorem EntryTime.vectorTo {n : Nat} {s t : State} (h : TimeOnly n s t) {vector : Addr} (hq : quietRead vector = true)
    (hq1 : quietRead (vector + 1) = true) (nmi : Bool) : EntryTime n nmi s (t.vectorTo vector nmi) := by
  obtain ⟨c, r, i, e, m, rfl⟩ := h.exists_eq
  have hstart := State.ticks_congr 2 { s.ticks n with nmiPending := (s.ticks n).nmiPending && !nmi }
    { c with ccr := { c.ccr with i := true } } r i e m
  have hread := (State.busRead16_of_quiet (s := State.vectorStart nmi
    { s.ticks n with cpu := c, run := r, irqHoldoff := i, ext := e, ram := m }) hq hq1).trans hstart
  unfold EntryTime
  rw [State.vectorTo_eq, hread]
  rfl

/-! ### An exception taken (R362) -/

/-- The end of an entry reads, but for the MPU registers and the run state. -/
theorem State.vectorTo_apart (vector : Addr) (nmi : Bool) (s : State) :
    ReadsApart s { s.vectorTo vector nmi with run := s.run } := by
  have hr := State.busRead16_readsOnly vector (s.vectorStart nmi)
  rw [State.vectorTo_eq]
  obtain ⟨_, ⟨h1, h2, h3, h4, h5, h6⟩, hp, he, hm⟩ := hr
  exact ⟨rfl, ⟨rfl, h2, h3, h4, h5, h6⟩, hp, he, hm⟩

/-- The vectors lie where the decoder finds external memory whatever the mode, and no register. -/
structure IsVector (v : Addr) : Prop where
  high : 0xFF < v.toNat
  high1 : 0xFF < (v + 1).toNat
  quiet : quietRead v = true
  quiet1 : quietRead (v + 1) = true

/-- What an entry that stacks makes of the machine, from the state before its first cycle. -/
structure Enters (reads : List Addr) (n : Nat) (vector : Addr) (nmi : Bool) (s t : State) : Prop where
  control : SameControl s { t with run := s.run }
  running : t.run = .running
  stores : Stores (frameBytes s) s t
  cpu : t.cpu = { s.cpu with sp := s.cpu.sp - 7, ccr := { s.cpu.ccr with i := true }, pc := t.cpu.pc }
  target : s.readable vector = true → s.readable (vector + 1) = true → t.cpu.pc = t.peek16 vector
  ports : (∀ p ∈ frameBytes s, s.plain p.1 = true) → SamePorts s t
  time : (∀ a ∈ reads, quietRead a = true) → (∀ p ∈ frameBytes s, s.plain p.1 = true) → EntryTime n nmi s t

/-- Seven bytes stacked, a discarded read below them, the vector. -/
theorem Enters.of_writes {reads : List Addr} {n : Nat} {s t : State} {vector : Addr} (h : Writes reads n [] s t)
    (hcpu : t.cpu = s.cpu) (hread : s.cpu.sp - 7 ∈ reads) (hv : IsVector vector) (nmi : Bool) :
    Enters reads (n + 8) vector nmi s (t.takeException false vector nmi) := by
  have hframe := h.pushFrame hcpu
  have hfcpu := t.pushFrame_cpu
  have htake : t.takeException false vector nmi = (t.pushFrame.busDiscard t.pushFrame.cpu.sp).vectorTo vector nmi := rfl
  rw [hcpu] at hfcpu
  have hw := hframe.discard hread
  have hwcpu : (t.pushFrame.busDiscard (s.cpu.sp - 7)).cpu = _ := (State.busDiscard_cpu _ _).trans hfcpu
  rw [htake, hfcpu]
  generalize t.pushFrame.busDiscard (s.cpu.sp - 7) = w at hw hwcpu
  have hreadable (a : Addr) (ha : 0xFF < a.toNat) (hr : s.readable a = true) : w.readable a = true := by
    rwa [State.readable, hw.region a (.inl (.inr ha)), State.extKind_congr hw.control.2.2.2.2.2]
  have hvec := State.vectorTo_apart vector nmi w
  have hvcpu := State.vectorTo_cpu vector nmi w
  have hpc := fun h h1 => State.vectorTo_pc (s := w) (hreadable vector hv.high h) (hreadable _ hv.high1 h1) nmi
  have htime := fun hq hvs => EntryTime.vectorTo (hw.time hq hvs) hv.quiet hv.quiet1 nmi
  have hrun := State.vectorTo_run vector nmi w
  generalize w.vectorTo vector nmi = u at hvec hvcpu hpc htime hrun
  have hpeek : ∀ a, u.peek a = w.peek a := hvec.peek
  obtain ⟨-, ⟨-, c2, c3, c4, c5, c6⟩, ⟨p1, p2⟩, he, hm⟩ := hvec
  obtain ⟨⟨-, d2, d3, d4, d5, d6⟩, -, hstores, -, hports, -⟩ := hw
  refine ⟨⟨rfl, c2.trans d2, c3.trans d3, c4.trans d4, c5.trans d5, c6.trans d6⟩, hrun,
    hstores.congr (SameMemory.of_eq he hm), ?_, fun h h1 => ?_, fun hvs => ?_, htime⟩
  · rwa [hwcpu] at hvcpu
  · rw [hpc h h1, State.peek16, State.peek16, hpeek, hpeek]
  · obtain ⟨q1, q2⟩ := hports hvs
    exact ⟨p1.trans q1, p2.trans q2⟩

theorem exec_swi (s : State) : exec .swi s = guardBus s.frameAddrs (s.nextByte.takeException false 0xFFFA false) := rfl

/-- SWI is an entry after a discarded read (R314, R459 (a)). -/
theorem exec_swi_enters {s : State} (hm : s.memoryOk = true) (hfree : ∀ a ∈ s.frameAddrs, isReserved a = false) :
    ∃ t, exec .swi s = .next t ∧ Enters [s.cpu.pc, s.cpu.sp - 7] 9 0xFFFA false s t := by
  have hnext : Writes [s.cpu.pc, s.cpu.sp - 7] 1 [] s s.nextByte := (Writes.refl hm).discard List.mem_cons_self
  exact ⟨_, (exec_swi s).trans (guardBus_of hfree),
    .of_writes hnext s.nextByte_readsOnly.cpu (by simp) ⟨by decide, by decide, by decide, by decide⟩ false⟩

/-- Settles O28: an entry from a state that runs, with no NMI to clear. -/
theorem swiCompletes : Obligations.SwiCompletes := by
  unfold Obligations.SwiCompletes
  intro s hm hrun hfree
  obtain ⟨t, hexec, ⟨⟨-, hcontrol⟩, hrunning, hstores, hcpu, htarget, hports, htime⟩⟩ := exec_swi_enters hm hfree
  refine ⟨t, hexec, hstores, ⟨hrunning.trans hrun.symm, hcontrol⟩, hcpu, htarget, fun hplain hpc hsp => ?_⟩
  have hvs := frameBytes_of_frameAddrs hplain
  exact ⟨hports hvs, (htime (by simpa [hpc] using hsp) hvs).timeOnly⟩

/-! ### Returns undo what was stacked -/

/-- A byte stored in RAM is read there afterwards, if the decoder sends the address as before. -/
theorem Stores.peek {vs : List (Addr × Byte)} {s t : State} (h : Stores vs s t) {a : Addr} {v : Byte} (hv : (a, v) ∈ vs)
    (hw : s.writable a = true) (hr : t.region a = s.region a) : t.peek a = v := by
  have hbytes := h.1 (a, v) hv
  rw [State.bytesStored_of_writable hw] at hbytes
  rw [State.peek, hr]
  split
  · rw [if_pos ‹_›] at hbytes
    exact congrArg Prod.snd hbytes
  · rw [if_neg ‹_›] at hbytes
    exact congrArg Prod.fst hbytes

theorem isReserved_of_plain {s : State} {a : Addr} (h : s.plain a = true) : isReserved a = false := by
  cases hres : isReserved a with
  | false => rfl
  | true =>
    have hrange : 0x15 ≤ a.toNat ∧ a.toNat ≤ 0x1F := by simpa [isReserved] using hres
    have hregion : s.region a = .reserved := by
      unfold State.region
      dsimp only
      rw [if_neg (by omega), if_neg (by omega), if_pos hres]
    rcases (State.plain_iff s a).1 h with hp | hp <;> rw [hregion] at hp <;> cases hp

theorem State.plain_of_writable {s : State} {a : Addr} (h : s.writable a = true) : s.plain a = true :=
  State.plain_of_readable (State.readable_of_writable h)

/-- Where ports, mode and map are kept, an address of RAM is one still. -/
theorem State.writable_congr {s t : State} (hc : SameControl s t) (hp : SamePorts s t) (a : Addr) :
    t.writable a = s.writable a := by
  rw [State.writable, State.region_congr hc.2.2.1 hc.2.2.2.1 hp.2, State.extKind_congr hc.2.2.2.2.2]
  rfl

/-- JSR and BSR complete alike: some target, the return address on the stack. -/
theorem call_completes {i : Instr} {s : State} (hi : (∃ o, i = jsrInstr o) ∨ ∃ rel, i = .bsr rel) (hm : s.memoryOk = true)
    (hfree : isReserved s.cpu.sp = false) (hfree1 : isReserved (s.cpu.sp - 1) = false) :
    ∃ target reads, CompletesStoring i s { s.cpu with pc := target, sp := s.cpu.sp - 2 }
      [(s.cpu.sp, BitVec.ofNat 8 (s.cpu.pc.toNat % 256)), (s.cpu.sp - 1, BitVec.ofNat 8 (s.cpu.pc.toNat / 256))] reads := by
  obtain ⟨hjsr, hbsr⟩ := callsComplete s hm hfree hfree1
  rcases hi with ⟨o, rfl⟩ | ⟨rel, rfl⟩
  · exact ⟨_, _, hjsr o⟩
  · exact ⟨_, _, hbsr rel⟩

/-- Settles O27: RTS pulls the two bytes the call has stored. -/
theorem returnUndoesCall : Obligations.ReturnUndoesCall := by
  unfold Obligations.ReturnUndoesCall
  intro i s t hi hm hw hw1 hexec
  have hplain := State.plain_of_writable hw
  have hplain1 := State.plain_of_writable hw1
  obtain ⟨target, reads, u, hu, hcpu, hcontrol, hstores, hports, -⟩ :=
    call_completes hi hm (isReserved_of_plain hplain) (isReserved_of_plain hplain1)
  rw [hexec, Host.Outcome.next.injEq] at hu
  subst hu
  have hp := hports (by simpa [hplain] using hplain1)
  have hsp : t.cpu.sp = s.cpu.sp - 2 := by rw [hcpu]
  have e1 : t.cpu.sp + 1 = s.cpu.sp - 1 := by rw [hsp]; bv_omega
  have e2 : t.cpu.sp + 2 = s.cpu.sp := by rw [hsp]; bv_omega
  have hr1 := State.readable_of_writable ((State.writable_congr hcontrol hp _).trans hw1)
  have hr2 := State.readable_of_writable ((State.writable_congr hcontrol hp _).trans hw)
  have hregion : ∀ a, t.region a = s.region a := State.region_congr hcontrol.2.2.1 hcontrol.2.2.2.1 hp.2
  have hhigh := hstores.peek (List.mem_cons_of_mem _ List.mem_cons_self) hw1 (hregion _)
  have hlow := hstores.peek List.mem_cons_self hw (hregion _)
  obtain ⟨-, hpulls⟩ := pullsComplete t (by rw [e1]; exact isReserved_of_plain hplain1)
  obtain ⟨v, -, ⟨w, hrts, hwcpu, -, -, hmem, -⟩, hv⟩ := hpulls (by rw [e2]; exact isReserved_of_plain hplain)
  refine ⟨w, hrts, ?_, hmem⟩
  rw [e1, e2, State.peek16, show s.cpu.sp - 1 + 1 = s.cpu.sp by bv_omega] at hv
  rw [hwcpu, hv hr1 hr2, hhigh, hlow, ← lo_eq_ofNat, ← hi_eq_ofNat, join_hi_lo, e2, hcpu]

theorem Ccr.ofByte_toByte (f : Ccr) : Ccr.ofByte f.toByte = f := by
  obtain ⟨h, i, n, z, v, c⟩ := f
  cases h <;> cases i <;> cases n <;> cases z <;> cases v <;> cases c <;> rfl

/-- The addresses RTI pulls from, counted from where the stacking began. -/
theorem frame_addresses {p q : Word} (h : q = p - 7) :
    q + 1 = p - 6 ∧ q + 2 = p - 5 ∧ q + 3 = p - 4 ∧ q + 4 = p - 3 ∧ q + 5 = p - 2 ∧ q + 6 = p - 1 ∧ q + 7 = p := by
  subst h
  exact ⟨sub_add p 7 1, sub_add p 7 2, sub_add p 7 3, sub_add p 7 4, sub_add p 7 5, sub_add p 7 6, sub_add_cancel p 7⟩

/-- Settles O31: RTI pulls the seven bytes SWI has stored. -/
theorem rtiUndoesStacking : Obligations.RtiUndoesStacking := by
  unfold Obligations.RtiUndoesStacking
  intro s t hm hw hexec
  obtain ⟨u, hu, hent⟩ := exec_swi_enters hm fun a ha => isReserved_of_plain (State.plain_of_writable (hw a ha))
  rw [hexec, Host.Outcome.next.injEq] at hu
  subst hu
  have hp := hent.ports (frameBytes_of_frameAddrs fun a ha => State.plain_of_writable (hw a ha))
  have hregion : ∀ a, t.region a = s.region a :=
    State.region_congr hent.control.2.2.1 hent.control.2.2.2.1 hp.2
  have hkeep (a : Addr) : t.writable a = s.writable a := State.writable_congr hent.control hp a
  have hpeek : ∀ q ∈ frameBytes s, t.peek q.1 = q.2 := fun q hq =>
    hent.stores.peek hq (frameBytes_of_frameAddrs hw q hq) (hregion _)
  have hwritable : ∀ q ∈ frameBytes s, t.writable q.1 = true := fun q hq =>
    (hkeep q.1).trans (frameBytes_of_frameAddrs hw q hq)
  simp only [frameBytes, List.forall_mem_cons] at hpeek hwritable
  obtain ⟨w0, w1, w2, w3, w4, w5, w6, -⟩ := hwritable
  obtain ⟨p0, p1, p2, p3, p4, p5, p6, -⟩ := hpeek
  obtain ⟨e1, e2, e3, e4, e5, e6, e7⟩ := frame_addresses (show t.cpu.sp = s.cpu.sp - 7 by rw [hent.cpu])
  have hframe : ∀ a ∈ addrsUp 7 (t.cpu.sp + 1), t.writable a = true := by
    rw [addrsUp_seven, e1, e2, e3, e4, e5, e6, e7]
    simp only [List.forall_mem_cons]
    exact ⟨w6, w5, w4, w3, w2, w1, w0, by simp⟩
  obtain ⟨c, ⟨v, hrti, hvcpu, -, -, hmem, -⟩, hcsp, hc⟩ :=
    rtiCompletes t fun a ha => isReserved_of_plain (State.plain_of_writable (hframe a ha))
  obtain ⟨hccr, hb, ha, hx, hpc⟩ := hc fun a ha => State.readable_of_writable (hframe a ha)
  refine ⟨v, hrti, ?_, hmem⟩
  rw [e1, p6, Ccr.ofByte_toByte] at hccr
  rw [e2, p5] at hb
  rw [e3, p4] at ha
  rw [e4, State.peek16, p3, show s.cpu.sp - 3 + 1 = s.cpu.sp - 2 by bv_omega, p2, join_hi_lo] at hx
  rw [e6, State.peek16, p1, show s.cpu.sp - 1 + 1 = s.cpu.sp by bv_omega, p0, join_hi_lo] at hpc
  rw [e7] at hcsp
  rw [hvcpu]
  obtain ⟨ca, cb, cx, csp, cpc, cccr⟩ := c
  subst hccr hb ha hx hpc hcsp
  rfl

end Sys2Proof.Machine
end


section
/-! PROOF. The control of the machine by single instructions (44_ccr, 45_test_and_unassigned, 10_state): the writers of I, H and
the run state one by one, then the statements O32, O34, O36 and O44. -/

namespace Sys2Proof.Machine

/-! ### The writers of I, H and the run state -/

/-- The instructions that can write I, H or the run state, by name. -/
theorem writesControl_cases {i : Instr} (h : writesControl i = true) :
    i ∈ [.cli, .tap, .rti, .sei, .swi, .wai, .test4E, .test5E, .aba] ∨
      ∃ r o, i = binInstr .add r o ∨ i = binInstr .adc r o := by
  cases i with
  | cli | tap | rti | sei | swi | wai | test4E | test5E | aba => exact .inl (by simp)
  | addaImm m => exact .inr ⟨.a, .imm m, .inl rfl⟩
  | addaDir a => exact .inr ⟨.a, .mem (.dir a), .inl rfl⟩
  | addaIdx off => exact .inr ⟨.a, .mem (.idx off), .inl rfl⟩
  | addaExt a => exact .inr ⟨.a, .mem (.ext a), .inl rfl⟩
  | addbImm m => exact .inr ⟨.b, .imm m, .inl rfl⟩
  | addbDir a => exact .inr ⟨.b, .mem (.dir a), .inl rfl⟩
  | addbIdx off => exact .inr ⟨.b, .mem (.idx off), .inl rfl⟩
  | addbExt a => exact .inr ⟨.b, .mem (.ext a), .inl rfl⟩
  | adcaImm m => exact .inr ⟨.a, .imm m, .inr rfl⟩
  | adcaDir a => exact .inr ⟨.a, .mem (.dir a), .inr rfl⟩
  | adcaIdx off => exact .inr ⟨.a, .mem (.idx off), .inr rfl⟩
  | adcaExt a => exact .inr ⟨.a, .mem (.ext a), .inr rfl⟩
  | adcbImm m => exact .inr ⟨.b, .imm m, .inr rfl⟩
  | adcbDir a => exact .inr ⟨.b, .mem (.dir a), .inr rfl⟩
  | adcbIdx off => exact .inr ⟨.b, .mem (.idx off), .inr rfl⟩
  | adcbExt a => exact .inr ⟨.b, .mem (.ext a), .inr rfl⟩
  | _ => cases h

theorem exec_cli (s : State) : exec .cli s = execCli s := rfl

theorem exec_tap (s : State) : exec .tap s = execTap s := rfl

theorem State.nextByte_cpu (s : State) : s.nextByte.cpu = s.cpu := s.nextByte_readsOnly.cpu

theorem State.nextByte_run (s : State) : s.nextByte.run = s.run := s.nextByte_readsOnly.control.1

/-- An addition writes H and keeps the run state and I. -/
theorem accBinary_run {op : Ccr → Byte → Byte → Byte × Ccr} {r : Acc} {o : Src8} {s t : State}
    (h : accBinary op r o s = .next t) (hop : ∀ f a m, (op f a m).2.i = f.i) :
    t.run = s.run ∧ t.cpu.ccr.i = s.cpu.ccr.i := by
  obtain ⟨-, rfl⟩ := guardBus_eq_next.1 h
  rw [State.withCcr_run, State.withAcc_run, (o.read_readsOnly s).control.1, State.withCcr_cpu_ccr]
  exact ⟨rfl, hop _ _ _⟩

/-- What `s` to `t` leaves of the run state, I and H, for each instruction that can write one of them. -/
structure ControlKept (run i h : Bool) (s t : State) : Prop where
  run : run = true → t.run = s.run
  i : i = true → t.cpu.ccr.i = s.cpu.ccr.i
  h : h = true → t.cpu.ccr.h = s.cpu.ccr.h

theorem add_control {r : Acc} {o : Src8} {s t : State} {i : Instr} (hi : i = binInstr .add r o ∨ i = binInstr .adc r o)
    (h : exec i s = .next t) : ControlKept true true false s t := by
  rcases hi with rfl | rfl
  all_goals
    rw [exec_binInstr] at h
    obtain ⟨hr, hii⟩ := accBinary_run h fun _ _ _ => rfl
    exact ⟨fun _ => hr, fun _ => hii, nofun⟩

theorem aba_control {s t : State} (h : exec .aba s = .next t) : ControlKept true true false s t := by
  rw [exec_aba, execAba, inherent2_eq] at h
  cases h
  exact ⟨fun _ => s.nextByte_run, fun _ => rfl, nofun⟩

theorem cli_control {s t : State} (h : exec .cli s = .next t) : ControlKept true false true s t ∧ t.cpu.ccr.i = false := by
  rw [exec_cli, execCli] at h
  cases h
  exact ⟨⟨fun _ => s.nextByte_run, nofun, fun _ => rfl⟩, rfl⟩

theorem sei_control {s t : State} (h : exec .sei s = .next t) : ControlKept true false true s t ∧ t.cpu.ccr.i = true := by
  rw [exec_sei, execSei, inherent2_eq] at h
  cases h
  exact ⟨⟨fun _ => s.nextByte_run, nofun, fun _ => rfl⟩, rfl⟩

theorem tap_control {s t : State} (h : exec .tap s = .next t) : ControlKept true false false s t := by
  rw [exec_tap, execTap] at h
  cases h
  exact ⟨fun _ => s.nextByte_run, nofun, nofun⟩

theorem rti_apart {s t : State} (h : exec .rti s = .next t) : ReadsApart s t := by
  rw [exec_rti] at h
  obtain ⟨-, rfl⟩ := guardBus_eq_next.1 h
  exact s.beforePull_readsOnly.apart.pullFrame

theorem rti_control {s t : State} (h : exec .rti s = .next t) : ControlKept true false false s t :=
  ⟨fun _ => (rti_apart h).control.1, nofun, nofun⟩

theorem wai_control {s t : State} (h : exec .wai s = .next t) : ControlKept false true true s t ∧ t.run = .waiting := by
  rw [exec_wai] at h
  obtain ⟨-, rfl⟩ := guardBus_eq_next.1 h
  have hcpu : s.nextByte.pushFrame.cpu.ccr = s.cpu.ccr := by rw [State.pushFrame_cpu, s.nextByte_cpu]
  exact ⟨⟨nofun, fun _ => congrArg Ccr.i hcpu, fun _ => congrArg Ccr.h hcpu⟩, rfl⟩

theorem swi_control {s t : State} (h : exec .swi s = .next t) :
    ControlKept false false true s t ∧ t.run = .running ∧ t.cpu.ccr.i = true := by
  rw [exec_swi] at h
  obtain ⟨-, rfl⟩ := guardBus_eq_next.1 h
  let w := s.nextByte.pushFrame.busDiscard s.nextByte.pushFrame.cpu.sp
  have hframe : w.cpu.ccr = s.cpu.ccr := by
    rw [State.busDiscard_cpu, State.pushFrame_cpu, s.nextByte_cpu]
  have hcpu := State.vectorTo_cpu 0xFFFA false w
  refine ⟨⟨nofun, nofun, fun _ => ?_⟩, rfl, congrArg (fun c => c.ccr.i) hcpu⟩
  exact (congrArg (fun c => c.ccr.h) hcpu).trans (congrArg Ccr.h hframe)

theorem testOpcode_control {i : Instr} {s t : State} (hi : i = .test4E ∨ i = .test5E) (h : exec i s = .next t) :
    ControlKept false true true s t ∧ t.run = .testCount := by
  rcases hi with rfl | rfl
  all_goals
    cases h
    exact ⟨⟨nofun, fun _ => rfl, fun _ => rfl⟩, rfl⟩

/-- Settles O36: what no writer writes is kept by every instruction's operations; each writer has its own list. -/
theorem controlWriters : Obligations.ControlWriters := by
  unfold Obligations.ControlWriters
  intro i s t h
  cases hw : writesControl i with
  | false =>
    have hin := exec_within i s
    rw [hw] at hin
    obtain ⟨hr, hi, hh⟩ := (hin t h).control_kept
    exact ⟨fun h1 h0 => (Bool.false_ne_true (h0.symm.trans (hi.trans h1))).elim,
      fun h0 h1 => (Bool.false_ne_true (h0.symm.trans (hi.symm.trans h1))).elim,
      fun hne => absurd hh hne, fun hne => absurd hr hne⟩
  | true =>
    rcases writesControl_cases hw with hmem | ⟨r, o, ho⟩
    · simp only [List.mem_cons, List.not_mem_nil, or_false] at hmem
      rcases hmem with rfl | rfl | rfl | rfl | rfl | rfl | rfl | rfl | rfl
      · obtain ⟨⟨hr, -, hh⟩, hi⟩ := cli_control h
        exact ⟨by simp, by simp [hi], fun hne => absurd (hh rfl) hne, fun hne => absurd (hr rfl) hne⟩
      · obtain ⟨hr, -, -⟩ := tap_control h
        exact ⟨by simp, by simp, by simp, fun hne => absurd (hr rfl) hne⟩
      · obtain ⟨hr, -, -⟩ := rti_control h
        exact ⟨by simp, by simp, by simp, fun hne => absurd (hr rfl) hne⟩
      · obtain ⟨⟨hr, -, hh⟩, hi⟩ := sei_control h
        exact ⟨by simp [hi], by simp, fun hne => absurd (hh rfl) hne, fun hne => absurd (hr rfl) hne⟩
      · obtain ⟨⟨-, -, hh⟩, hr, hi⟩ := swi_control h
        exact ⟨by simp [hi], by simp, fun hne => absurd (hh rfl) hne, fun _ => .inr (.inr ⟨rfl, hr⟩)⟩
      · obtain ⟨⟨-, hi, hh⟩, hr⟩ := wai_control h
        exact ⟨by simp [hi], by simp [hi], fun hne => absurd (hh rfl) hne, fun _ => .inl ⟨rfl, hr⟩⟩
      · obtain ⟨⟨-, hi, hh⟩, hr⟩ := testOpcode_control (.inl rfl) h
        exact ⟨by simp [hi], by simp [hi], fun hne => absurd (hh rfl) hne, fun _ => .inr (.inl ⟨.inl rfl, hr⟩)⟩
      · obtain ⟨⟨-, hi, hh⟩, hr⟩ := testOpcode_control (.inr rfl) h
        exact ⟨by simp [hi], by simp [hi], fun hne => absurd (hh rfl) hne, fun _ => .inr (.inl ⟨.inr rfl, hr⟩)⟩
      · obtain ⟨hr, hi, -⟩ := aba_control h
        exact ⟨by simp [hi], by simp [hi], by simp, fun hne => absurd (hr rfl) hne⟩
    · obtain ⟨hr, hi, -⟩ := add_control ho h
      exact ⟨fun h1 h0 => (Bool.false_ne_true (h0.symm.trans ((hi rfl).trans h1))).elim,
        fun h0 h1 => (Bool.false_ne_true (h0.symm.trans ((hi rfl).symm.trans h1))).elim,
        fun _ => .inr ⟨r, o, ho⟩, fun hne => absurd (hr rfl) hne⟩

/-! ### CLI, TAP and the test opcodes -/

theorem toNat_ofByte_toByte (v : Byte) : (Ccr.ofByte v).toByte.toNat = v.toNat % 64 + 192 := by
  revert v
  decide

theorem i_ofByte (v : Byte) : (Ccr.ofByte v).i = decide (v.toNat / 16 % 2 = 1) := by
  revert v
  decide

/-- Settles O34: both replace the flags after a discarded read. -/
theorem cliTapComplete : Obligations.CliTapComplete := by
  unfold Obligations.CliTapComplete
  intro s
  have hr := s.nextByte_readsOnly
  have htime (hq : quietRead s.cpu.pc = true) : TimeOnly 1 s s.nextByte := State.nextByte_time (by simpa using hq)
  constructor
  · refine ⟨_, exec_cli s, ?_, rfl, hr.control.1, hr.ports, hr.memory, fun hq => ?_⟩
    · rw [State.withCcr, hr.cpu]
    · exact (htime hq).change _ _ _ _ _
  · refine ⟨_, exec_tap s, ?_, toNat_ofByte_toByte _, ?_, hr.control.1, hr.ports, hr.memory, fun hq => ?_⟩
    · rw [State.withCcr, hr.cpu]
    · show (s.cpu.ccr.i && !(Ccr.ofByte s.cpu.a).i) = _
      rw [i_ofByte]
      congr 1
      have hbit := Nat.mod_two_eq_zero_or_one (s.cpu.a.toNat / 16)
      rcases hbit with h | h <;> simp [h]
    · exact (htime hq).change _ _ _ _ _

/-- Settles O32: the run state alone is written. -/
theorem testOpcodesComplete : Obligations.TestOpcodesComplete := by
  unfold Obligations.TestOpcodesComplete
  rintro s i (rfl | rfl)
  · exact ⟨_, rfl, rfl, rfl⟩
  · exact ⟨_, rfl, rfl, rfl⟩

/-! ### The boundary after a change of I (R359) -/

theorem State.request_of_no_nmi {s : State} (hn : s.nmiPending = false) :
    s.request = if s.masked = true then none else s.maskableRequest := by
  rw [State.request, hn]
  rfl

theorem State.masked_of_clear {s : State} (hi : s.cpu.ccr.i = false) :
    s.masked = (s.irqHoldoff && Config.cliDelay) := by
  rw [State.masked, hi, Bool.false_or]

/-- Settles O44: CLI notes that it has cleared I, RTI keeps the note as it was, SEI sets I. -/
theorem boundaryAfterMaskChange : Obligations.BoundaryAfterMaskChange := by
  unfold Obligations.BoundaryAfterMaskChange
  intro s t
  refine ⟨fun h hi hn => ?_, fun h hh hi hn => ?_, fun h hn => ?_⟩
  · obtain ⟨-, hclear⟩ := cli_control h
    have hhold : t.irqHoldoff = true := by
      rw [exec_cli, execCli] at h
      cases h
      exact hi
    rw [State.request_of_no_nmi hn, State.masked_of_clear hclear, hhold, Bool.true_and]
  · have hhold : t.irqHoldoff = false := (rti_apart h).control.2.1.trans hh
    rw [State.request_of_no_nmi hn, State.masked_of_clear hi, hhold, Bool.false_and]
    rfl
  · exact State.request_of_masked (sei_control h).2 hn

end Sys2Proof.Machine
end


section
/-! PROOF. Fetches, operands and the stop at reserved addresses (20_memory, 30_encoding, 10_state section 5): the statements O5 to
O8. -/

namespace Sys2Proof.Machine

/-! ### Fetching -/

/-- The state in which `n` bytes of an instruction have been fetched from memory at PC. -/
def State.fetched (n : Nat) (s : State) : State :=
  { s.ticks n with irqHoldoff := false, cpu := { s.cpu with pc := s.cpu.pc + BitVec.ofNat 16 n } }

theorem State.fetched_zero (s : State) : s.fetched 0 = { s with irqHoldoff := false } := by
  simp [State.fetched, State.ticks]

theorem State.fetched_readable (n : Nat) (s : State) (a : Addr) : (s.fetched n).readable a = s.readable a :=
  (s.ticks_readsOnly n).readable a

theorem State.fetched_peek (n : Nat) (s : State) (a : Addr) : (s.fetched n).peek a = s.peek a :=
  (s.ticks_readsOnly n).peek a

/-- One more E cycle and PC one further. -/
theorem State.fetched_succ (n : Nat) (s : State) :
    (s.fetched n).tick.withPc (s.cpu.pc + BitVec.ofNat 16 n + 1) = s.fetched (n + 1) := by
  have hpc : s.cpu.pc + BitVec.ofNat 16 n + 1 = s.cpu.pc + BitVec.ofNat 16 (n + 1) := by
    rw [BitVec.add_assoc, BitVec.ofNat_add]
    rfl
  have htick : (s.fetched n).tick = _ := State.tickWith_congr (s.ticks n) false
    { s.cpu with pc := s.cpu.pc + BitVec.ofNat 16 n } (s.ticks n).run false (s.ticks n).ext (s.ticks n).ram
  rw [htick, hpc, State.fetched, State.ticks_succ]
  simp [State.withPc, State.tick]

/-- A byte of memory is fetched in an E cycle without a side effect. -/
theorem fetchThen_fetched {n : Nat} {s : State} (h : s.readable (s.cpu.pc + BitVec.ofNat 16 n) = true)
    (k : Byte → State → Result) :
    fetchThen k (s.fetched n) = k (s.peek (s.cpu.pc + BitVec.ofNat 16 n)) (s.fetched (n + 1)) := by
  have hplain := State.plain_of_readable h
  have hread : (s.fetched n).readable (s.fetched n).cpu.pc = true := (s.fetched_readable n _).trans h
  have hvalue : ((s.fetched n).busRead (s.fetched n).cpu.pc).1 = s.peek (s.cpu.pc + BitVec.ofNat 16 n) :=
    (State.busRead_of_readable hread).trans (s.fetched_peek n _)
  have hstate : ((s.fetched n).busRead (s.fetched n).cpu.pc).2 = (s.fetched n).tick :=
    State.readEffect_of_quiet _ (State.quietRead_of_plain hplain)
  have hfree : ¬isReserved (s.fetched n).cpu.pc = true := ne_true_of_eq_false (isReserved_of_plain hplain)
  rw [fetchThen, if_neg hfree, State.fetch8, hvalue, hstate]
  exact congrArg (k _) (s.fetched_succ n)

theorem fetchThen_reserved {s : State} (h : isReserved s.cpu.pc = true) (k : Byte → State → Result) :
    fetchThen k s = .refused (.reservedAddress s.cpu.pc) := by
  rw [fetchThen, if_pos h]

theorem step_of_running {s : State} (h : s.run = .running) : step s = settle s s.stepRunning := by
  rw [step, State.stepByRunState, h]

/-- Running, with HALT high and no request: the next instruction. -/
theorem step_running_of_none {s : State} (hr : s.run = .running) (hh : s.pins.halt = true) (hq : s.request = none) :
    step s = settle s s.executeNext := by
  rw [step_of_running hr]
  simp [State.stepRunning, hh, hq]

/-- Running, with HALT high and a request: the entry. -/
theorem step_running_of_request {s : State} {src : IrqSource} (hr : s.run = .running) (hh : s.pins.halt = true)
    (hq : s.request = some src) : step s = settle s (s.take src) := by
  rw [step_of_running hr]
  simp [State.stepRunning, hh, hq]

/-- The instruction of an assigned first byte has as many bytes as its form takes. -/
theorem instrBytes_apply {op : Byte} {F : Form} (h : opcodeForm op = some F) (b1 b2 : Byte) :
    instrBytes (F.apply b1 b2) = F.size := by
  rw [instrBytes, encode_apply op h]
  cases F <;> rfl

/-- The instruction decoded at PC is executed after its bytes have been fetched, by the form of the first byte. -/
theorem State.executeNext_of_decode {s : State} {i : Instr} {rest : List Byte}
    (hd : decode [s.peek s.cpu.pc, s.peek (s.cpu.pc + 1), s.peek (s.cpu.pc + 2)] = .ok (i, rest))
    (hr : ∀ k < instrBytes i, s.readable (s.cpu.pc + BitVec.ofNat 16 k) = true) :
    s.executeNext = exec i (s.fetched (instrBytes i)) := by
  have h0 : s.cpu.pc + BitVec.ofNat 16 0 = s.cpu.pc := BitVec.add_zero _
  obtain ⟨op, F, b1, b2, hF, rfl, hbytes⟩ := decode_eq_ok hd
  rw [instrBytes_apply hF] at hr ⊢
  have hop : s.peek s.cpu.pc = op := by
    cases F with
    | one _ | two _ | three _ => exact (List.cons_eq_cons.1 hbytes).1
  have hfirst := fun k => fetchThen_fetched (n := 0) (s := s) (hr 0 (by cases F <;> simp [Form.size])) k
  rw [h0, hop, s.fetched_zero] at hfirst
  rw [State.executeNext, hfirst]
  simp only [hF]
  cases F with
  | one i => rfl
  | two f =>
    have hb : s.peek (s.cpu.pc + 1) = b1 := (List.cons_eq_cons.1 (List.cons_eq_cons.1 hbytes).2).1
    have hsecond := fun k => fetchThen_fetched (n := 1) (s := s) (hr 1 (by simp [Form.size])) k
    exact (hsecond _).trans (congrArg (fun b => exec (f b) (s.fetched 2)) hb)
  | three f =>
    obtain ⟨hb1, hrest⟩ := List.cons_eq_cons.1 (List.cons_eq_cons.1 hbytes).2
    have hb2 : s.peek (s.cpu.pc + 2) = b2 := (List.cons_eq_cons.1 hrest).1
    have hsecond := fun k => fetchThen_fetched (n := 1) (s := s) (hr 1 (by simp [Form.size])) k
    have hthird := fun k => fetchThen_fetched (n := 2) (s := s) (hr 2 (by simp [Form.size])) k
    exact (hsecond _).trans ((hthird _).trans (congrArg₂ (fun h l => exec (f h l) (s.fetched 3)) hb1 hb2))

/-- Settles O5: fetches from memory are time and a new PC. -/
theorem stepRunsInstruction : Obligations.StepRunsInstruction := by
  unfold Obligations.StepRunsInstruction
  intro s i rest hrun hhalt hreq hd hread
  rw [step_running_of_none hrun hhalt hreq, State.executeNext_of_decode hd hread]
  rfl

/-- Settles O6: by the first fetch. -/
theorem fetchStops : Obligations.FetchStops := by
  unfold Obligations.FetchStops
  intro s hrun hhalt hreq
  rw [step_running_of_none hrun hhalt hreq, State.executeNext]
  constructor
  · intro hread hop
    have hnone : opcodeForm (s.peek s.cpu.pc) = none :=
      Option.isNone_iff_eq_none.1 ((isNone_opcodeForm _).trans (decide_eq_true hop))
    have hfirst := fun k => fetchThen_fetched (n := 0) (s := s) (by simpa using hread) k
    rw [s.fetched_zero, show s.cpu.pc + BitVec.ofNat 16 0 = s.cpu.pc from BitVec.add_zero _] at hfirst
    rw [hfirst, hnone]
    rfl
  · intro hres
    exact congrArg (settle s) (fetchThen_reserved (s := { s with irqHoldoff := false }) hres _)

/-! ### Operands -/

theorem Mem.lead_eq_ticks (o : Mem) (s : State) : o.lead s = s.ticks o.leadCycles := by cases o <;> rfl

theorem Mem.readCycles_eq (o : Mem) (n : Nat) : o.readCycles n = o.leadCycles + n := by
  cases o with
  | dir _ | ext _ => exact (Nat.zero_add n).symm
  | idx _ => exact Nat.add_comm n 1

theorem State.busRead_of_quiet {s : State} {a : Addr} (h : quietRead a = true) : (s.busRead a).2 = s.tick :=
  State.readEffect_of_quiet _ h

/-- Settles O8: addresses by their definition; reads of memory give its bytes and spend time alone. -/
theorem operandValues : Obligations.OperandValues := by
  unfold Obligations.OperandValues
  intro s
  refine ⟨fun a => ?_, fun _ => rfl, fun off => ?_, fun _ => rfl, fun _ => rfl, fun e => Mem.read8_of_readable,
    fun e h h1 => ?_, fun e h => ?_, fun e h h1 => ?_⟩
  · show (zext16 a).toNat = a.toNat
    rw [zext16, BitVec.toNat_setWidth_of_le (by omega)]
  · show (s.cpu.x + zext16 off).toNat = _
    rw [add_zext16, BitVec.toNat_ofNat]
  · exact (congrArg BitVec.toNat (Mem.read16_of_readable h h1)).trans (toNat_join _ _)
  · rw [Mem.readCycles_eq, State.ticks_add, ← Mem.lead_eq_ticks]
    exact State.busRead_of_quiet (State.quietRead_of_plain h)
  · rw [Mem.readCycles_eq, State.ticks_add, ← Mem.lead_eq_ticks]
    exact State.busRead16_of_quiet (State.quietRead_of_plain h) (State.quietRead_of_plain h1)

/-! ### The stop at reserved addresses (R59) -/

theorem guardBus_of_find {as : List Addr} {a : Addr} (h : as.find? isReserved = some a) (t : State) :
    guardBus as t = .refused (.reservedAddress a) := by
  rw [guardBus, h]

/-- An instruction whose answer is guarded by the addresses it accesses stops at the first reserved one. -/
theorem StopsAt.of_guardBus {i : Instr} {s t : State} {as : List Addr} (h : exec i s = guardBus as t) : StopsAt i s as :=
  fun _ ha => h.trans (guardBus_of_find ha t)

theorem addrsUp_two (p : Addr) : addrsUp 2 (p + 1) = [p + 1, p + 2] := by
  rw [word_add_two]
  rfl

theorem frameAddrs_eq_list (s : State) :
    s.frameAddrs = [s.cpu.sp, s.cpu.sp - 1, s.cpu.sp - 2, s.cpu.sp - 3, s.cpu.sp - 4, s.cpu.sp - 5, s.cpu.sp - 6] :=
  frameAddrs_eq s

/-- A call stops at the stack addresses, which the cycles before it do not change. -/
theorem StopsAt.of_callTo {i : Instr} {s t : State} {target : Addr} (h : exec i s = callTo target t) (hc : t.cpu = s.cpu) :
    StopsAt i s [s.cpu.sp, s.cpu.sp - 1] := by
  rw [callTo, hc] at h
  exact .of_guardBus h

/-- Settles O7: each form's answer is guarded by its addresses, an entry's from Running by the frame's. -/
theorem reservedAddressStops : Obligations.ReservedAddressStops := by
  unfold Obligations.ReservedAddressStops
  refine ⟨fun a => by simp [isReserved], fun s => ?_⟩
  refine ⟨fun o => ⟨fun k r => .of_guardBus (exec_binInstr k r o s), fun k r => .of_guardBus (exec_cmpInstr k r o s)⟩,
    fun o => ⟨fun r => .of_guardBus (exec_loadInstr r o s), .of_guardBus (exec_adddInstr o s),
      .of_guardBus (exec_subdInstr o s), .of_guardBus (exec_cpxInstr o s)⟩,
    fun o => ⟨rfl, rfl, fun r => .of_guardBus (exec_storeAccInstr r o s), fun r => .of_guardBus (exec_storeInstr r o s),
      .of_callTo (exec_jsrInstr o s) (o.lead_readsOnly s).cpu⟩,
    fun o => ⟨fun k => .of_guardBus (exec_memInstr k o s), .of_guardBus (exec_tstInstr o s)⟩,
    fun r => .of_guardBus (exec_pshInstr r s), .of_guardBus (exec_pshx s),
    fun rel => .of_callTo (exec_bsr rel s) (State.busIdle_cpu s), ?_, ?_, fun r => .of_guardBus (exec_pulInstr r s),
    ?_, ?_, ?_, fun hrun hhalt src a hreq ha => ?_⟩
  · rw [← frameAddrs_eq_list]
    exact .of_guardBus (exec_swi s)
  · rw [← frameAddrs_eq_list]
    exact .of_guardBus (exec_wai s)
  · rw [← addrsUp_two]
    exact .of_guardBus (exec_pulx s)
  · rw [← addrsUp_two]
    exact .of_guardBus (exec_rts s)
  · rw [← addrsUp_seven]
    exact .of_guardBus (exec_rti s)
  · rw [← frameAddrs_eq_list] at ha
    rw [step_running_of_request hrun hhalt hreq, State.take, show (s.run == .waiting) = false by rw [hrun]; rfl,
      if_neg Bool.false_ne_true, guardBus_of_find ha]
    rfl

end Sys2Proof.Machine
end


section
/-! PROOF. Steps by run state (10_state section 4, 60_exceptions sections 1 to 3): an E cycle field by field, the end of a step, then
the statements O37 to O40, O42 and O43. -/

namespace Sys2Proof.Machine

/-! ### One E cycle, field by field -/

/-- Where RESET has not been seen, an E cycle is the next entry of the schedule, the timer's step and the serial interface's. -/
theorem State.tickWith_eq {s : State} (h : s.resetSeen = false) (p : Bool) :
    s.tickWith p =
      { s.sample with
        timer := s.timer.step p (s.sample.p2Lines.getLsbD 0)
        sci := s.sci.step s.timer.cnt (s.timer.step p (s.sample.p2Lines.getLsbD 0)).cnt s.nextP22Between
          (s.sample.p2Lines.getLsbD 2) s.nextRx (s.cycles + 1) } := by
  rw [State.tickWith, if_neg (by simp [h])]
  rfl

section Tick

variable {s : State} (h : s.resetSeen = false) (p : Bool)
include h

theorem State.tickWith_pins : (s.tickWith p).pins = s.nextPins := by rw [State.tickWith_eq h]; rfl

theorem State.tickWith_nmiPending :
    (s.tickWith p).nmiPending = (s.nmiPending || (s.pins.nmi && !s.nextPins.nmi)) := by
  rw [State.tickWith_eq h]; rfl

theorem State.tickWith_resetSeen : (s.tickWith p).resetSeen = (!s.nextPins.reset || !s.nextPins.vcc) := by
  have hseen : (s.tickWith p).resetSeen = (s.resetSeen || !s.nextPins.reset || !s.nextPins.vcc) := by
    rw [State.tickWith_eq h]; rfl
  rw [hseen, h, Bool.false_or]

theorem State.tickWith_powerLost : (s.tickWith p).powerLost = (s.powerLost || !s.nextPins.vcc) := by
  rw [State.tickWith_eq h]; rfl

theorem State.tickWith_standbyLost : (s.tickWith p).standbyLost = (s.standbyLost || !s.nextPins.standby) := by
  rw [State.tickWith_eq h]; rfl

theorem State.tickWith_stbyPwr : (s.tickWith p).ramcr.stbyPwr = (s.ramcr.stbyPwr && s.nextPins.standby) := by
  rw [State.tickWith_eq h]; rfl

end Tick

/-! ### The end of a step -/

/-- What the end of a step that began at `before` makes of `s`. -/
def State.settled (s before : State) : State := (if s.resetSeen then State.enterReset before s else s).powerEffects

theorem settle_next (before s : State) : settle before (.next s) = .next (s.settled before) := rfl

/-- RESET and the supplies leave the MPU registers, the mode and the map. -/
theorem State.settled_kept (s before : State) :
    (s.settled before).cpu = s.cpu ∧ (s.settled before).pc1 = s.pc1 ∧ (s.settled before).pc0 = s.pc0 ∧
      (s.settled before).extMap = s.extMap := by
  unfold State.settled
  split
  · exact ⟨rfl, rfl, rfl, rfl⟩
  · exact ⟨rfl, rfl, rfl, rfl⟩

theorem State.settled_run (s before : State) :
    (s.settled before).run = if s.resetSeen then .inReset else s.run := by
  unfold State.settled
  split
  · rfl
  · rfl

/-- With RESET high and the supplies up nothing is left to do. -/
theorem State.settled_of_quiet {before s : State} (hr : s.resetSeen = false) (hp : s.powerLost = false)
    (hb : s.standbyLost = false) : s.settled before = s := by
  rw [State.settled, hr, if_neg Bool.false_ne_true, State.powerEffects, hp, hb]
  obtain ⟨⟩ := s
  cases hp
  cases hb
  rfl

/-! ### The mode and the map (R4, R33) -/

/-- The mode bits and the platform's map are the same. -/
def SameMap (s t : State) : Prop := t.extMap = s.extMap ∧ t.pc1 = s.pc1 ∧ t.pc0 = s.pc0

/-- No operation of a step outside InReset writes the mode or the map. -/
theorem Reaches.sameMap {free : Bool} {s t : State} (h : Reaches free s t) : SameMap s t := by
  refine h.keeps (P := SameMap s) ⟨rfl, rfl, rfl⟩ ?_ ?_ ?_ (fun _ _ _ hu => hu) (fun _ _ _ _ hu => hu)
    (fun _ _ hu => hu) (fun _ _ hu => hu)
  · rintro u p ⟨h1, h2, h3⟩
    exact ⟨(u.tickWith_extMap p).trans h1, (u.tickWith_pc1 p).trans h2, (u.tickWith_pc0 p).trans h3⟩
  · rintro u a ⟨h1, h2, h3⟩
    exact ⟨(u.readEffect_extMap a).trans h1, (u.readEffect_pc1 a).trans h2, (u.readEffect_pc0 a).trans h3⟩
  · rintro u a v ⟨h1, h2, h3⟩
    exact ⟨(u.storeAt_extMap a v).trans h1, (u.storeAt_pc1 a v).trans h2, (u.storeAt_pc0 a v).trans h3⟩

theorem State.stepByRunState_sameMap {s t : State} (h : s.run ≠ .inReset) (ht : s.stepByRunState = .next t) :
    SameMap s t := by
  rcases State.stepByRunState_of_ne h ht with hr | ⟨u, a, v, hr, rfl⟩
  · exact hr.sameMap
  · exact hr.sameMap

theorem State.release_extMap (s : State) : s.release.extMap = s.extMap := by
  rw [State.release, State.ticks_extMap]

/-- A step in reset: it stays there, or the rising edge releases. -/
theorem State.stepInReset_cases {s t : State} (h : s.stepInReset = .next t) :
    (∃ n, t = { s.sample with resetSeen := false, resetCycles := n }) ∨
      t = State.release { s.sample with resetSeen := false } := by
  unfold State.stepInReset at h
  dsimp only at h
  split at h
  · exact .inl ⟨0, (Host.Outcome.next.inj h).symm⟩
  · split at h
    · exact .inl ⟨_, (Host.Outcome.next.inj h).symm⟩
    · split at h
      · cases h
      · split at h
        · cases h
        · exact .inr (Host.Outcome.next.inj h).symm

theorem State.stepInReset_extMap {s t : State} (h : s.stepInReset = .next t) : t.extMap = s.extMap := by
  rcases State.stepInReset_cases h with ⟨n, rfl⟩ | rfl
  · rfl
  · rw [State.release_extMap]
    rfl

/-- Settles O37: no operation of a step writes mode or map; only the rising edge of RESET latches the mode. -/
theorem modeChangesOnlyInReset : Obligations.ModeChangesOnlyInReset := by
  unfold Obligations.ModeChangesOnlyInReset
  intro s u hstep
  obtain ⟨t, ht, rfl⟩ := step_eq_next hstep
  obtain ⟨-, hpc1, hpc0, hmap⟩ := State.settled_kept t s
  by_cases hrun : s.run = .inReset
  · rw [State.stepByRunState, hrun] at ht
    exact ⟨hmap.trans (State.stepInReset_extMap ht), fun hne => absurd hrun hne⟩
  · obtain ⟨h1, h2, h3⟩ := State.stepByRunState_sameMap hrun ht
    exact ⟨hmap.trans h1, fun _ => ⟨hpc1.trans h2, hpc0.trans h3⟩⟩

/-! ### The test count (R340) -/

/-- Settles O38: an E cycle and PC one further; the end of the step takes it to InReset where RESET is low. -/
theorem testCountCounts : Obligations.TestCountCounts := by
  unfold Obligations.TestCountCounts
  intro s hrun
  have hstep : step s = .next ((s.tick.withPc (s.cpu.pc + 1)).settled s) := by
    rw [step, State.stepByRunState, hrun]
    rfl
  have htick : (s.tick.withPc (s.cpu.pc + 1)).run = .testCount := s.tick_run.trans hrun
  refine ⟨_, hstep, ?_, ?_, fun hreset hvcc hstby hseen hpow hlost => ?_⟩
  · rw [State.settled_run, htick]
    split
    · exact .inr rfl
    · exact .inl rfl
  · obtain ⟨hcpu, -⟩ := State.settled_kept (s.tick.withPc (s.cpu.pc + 1)) s
    rw [hcpu, ← word_add_one, State.withPc, State.tick_cpu]
  · have hr : s.tick.resetSeen = false := (State.tickWith_resetSeen hseen false).trans (by rw [hreset, hvcc]; rfl)
    have hp : s.tick.powerLost = false := (State.tickWith_powerLost hseen false).trans (by rw [hpow, hvcc]; rfl)
    have hb : s.tick.standbyLost = false := (State.tickWith_standbyLost hseen false).trans (by rw [hlost, hstby]; rfl)
    rw [State.settled_of_quiet (s := s.tick.withPc (s.cpu.pc + 1)) hr hp hb]
    exact ⟨htick, SameMemory.of_eq s.tick_ext s.tick_ram, rfl, rfl⟩

/-! ### Arbitration (R358) -/

/-- The first request of a list that stands, one request apart. -/
theorem first_standing_cons (x : IrqSource) (b : Bool) (l : List (IrqSource × Bool)) :
    (((x, b) :: l).find? (·.2)).map (·.1) = if b = true then some x else (l.find? (·.2)).map (·.1) := by
  cases b <;> rfl

/-- Settles O39: the edge is noted in the E cycle it comes in; the arbitration looks at one request after the other. -/
theorem arbitration : Obligations.Arbitration := by
  unfold Obligations.Arbitration
  refine ⟨fun s p h => State.tickWith_nmiPending h p, fun s => ?_⟩
  dsimp only
  rw [first_standing_cons, State.request]
  congr 1
  have hopen : (!s.cpu.ccr.i && !(s.irqHoldoff && Config.cliDelay)) = !s.masked := by
    rw [State.masked, Bool.not_or]
  rw [hopen]
  cases s.masked with
  | true => rfl
  | false =>
    simp only [first_standing_cons, Bool.not_false, Bool.true_and]
    rfl

/-! ### Waiting and HALT (R366, R372 to R374) -/

theorem step_of_halted {s : State} (h : s.run = .halted) : step s = settle s s.stepHalted := by
  rw [step, State.stepByRunState, h]

/-- A step that lets an E cycle pass. -/
theorem TimeOnly.one_tick (s : State) : TimeOnly 1 s s.tick := (TimeOnly.zero s).tick

theorem SameMemory.tick (s : State) : SameMemory s s.tick := .of_eq s.tick_ext s.tick_ram

/-- Settles O42: without a request that is looked at, an E cycle passes. -/
theorem waitGoesOn : Obligations.WaitGoesOn := by
  unfold Obligations.WaitGoesOn
  intro s hw h
  refine ⟨s.tick, ?_, s.tick_run.trans hw, s.tick_cpu, .tick s, .one_tick s⟩
  rcases h with ⟨hi, hn⟩ | hhalt
  · exact step_waiting_of_no_request hw (State.request_of_masked hi hn)
  · rw [step_of_waiting hw, State.stepWaiting, if_pos (by rw [hhalt]; rfl)]

/-- With HALT low an E cycle passes, and at most one byte of external memory is written. -/
theorem State.stepHalted_of_low {s : State} (h : s.pins.halt = false) :
    s.stepHalted = .next (match s.nextSample.bind (·.dma) with
      | none => s.tick
      | some (a, v) => { s.tick with ext := s.tick.ext.set a.toNat v }) := by
  rw [State.stepHalted, if_neg (by simp [h])]
  cases s.nextSample with
  | none => rfl
  | some x =>
    obtain ⟨pins, between, rx, dma⟩ := x
    cases dma with
    | none => rfl
    | some w => rfl

/-- Settles O43: into the halt, within it, and out of it. -/
theorem haltStopsAtBoundary : Obligations.HaltStopsAtBoundary := by
  unfold Obligations.HaltStopsAtBoundary
  intro s
  refine ⟨fun hrun hhalt => ?_, fun hm hrun hhalt => ?_, fun hrun hhalt => ?_⟩
  · refine ⟨{ s with run := .halted }, ?_, rfl, rfl, rfl, fun _ => rfl⟩
    rw [step_of_running hrun, State.stepRunning, if_pos (by rw [hhalt]; rfl)]
  · have hstep := (step_of_halted hrun).trans (congrArg (settle s) (State.stepHalted_of_low hhalt))
    have hrun' : s.tick.run = .halted := s.tick_run.trans hrun
    have hba : s.tick.ba = true := by rw [State.ba, hrun']; rfl
    cases hdma : s.nextSample.bind (·.dma) with
    | none =>
      rw [hdma] at hstep
      exact ⟨_, hstep, hrun', hba, s.tick_cpu, .one_tick s, s.tick_ram, fun a _ => SameMemory.tick s a⟩
    | some w =>
      obtain ⟨a, v⟩ := w
      rw [hdma] at hstep
      refine ⟨_, hstep, hrun', hba, s.tick_cpu, (TimeOnly.one_tick s).change _ _ _ _ _, s.tick_ram, fun b hb => ?_⟩
      have hne : b.toNat ≠ a.toNat := Addr.toNat_ne fun hba => hb v (by rw [hba])
      have hwf : Memory.wf s.ext = true := (Bool.and_eq_true_iff.1 hm).1
      show ((s.tick.ext.set a.toNat v).get b.toNat, s.tick.ram.get b.toNat) = s.byteAt b
      rw [s.tick_ext, s.tick_ram, Memory.get_set_of_ne hwf hne]
      rfl
  · refine ⟨{ s with run := .running }, ?_, rfl, rfl, fun _ => rfl⟩
    rw [step_of_halted hrun, State.stepHalted, if_pos hhalt]

/-! ### Interrupt entry (R362, R400) -/

theorem IrqSource.isVector (src : IrqSource) : IsVector src.vector := by
  cases src with
  | nmi | irq1 | icf | ocf | tof | sci => exact ⟨by decide, by decide, by decide, by decide⟩

/-- Time, as reads and writes of nothing. -/
theorem Writes.ticks {reads : List Addr} {s : State} (h : s.memoryOk = true) (n : Nat) :
    Writes reads n [] s (s.ticks n) := by
  induction n with
  | zero => exact .refl h
  | succ n ih =>
    rw [State.ticks_succ]
    exact ih.idle

/-- The time of an entry does not look at the hold-off. -/
theorem EntryTime.of_holdoff {n : Nat} {nmi b : Bool} {s t : State} (h : EntryTime n nmi { s with irqHoldoff := b } t) :
    EntryTime n nmi s t := by
  have hbefore : State.ticks n { s with irqHoldoff := b } = { s.ticks n with irqHoldoff := b } := by
    have hcongr := State.ticks_congr n s s.cpu s.run b s.ext s.ram
    rw [hcongr]
    simp
  let u := { s.ticks n with nmiPending := (s.ticks n).nmiPending && !nmi }
  have hafter := State.ticks_congr 2 u u.cpu u.run b u.ext u.ram
  unfold EntryTime at h ⊢
  rw [hbefore, hafter] at h
  exact h

theorem irqEntryCycles_eq : Config.irqEntryCycles - 2 = Config.irqEntryCycles - 10 + 8 := by
  rw [Config.irqEntryCycles]
  omega

/-- An entry from Running: the cycles before the bus sequence, then the sequence. -/
theorem State.take_of_running {s : State} (hrun : s.run = .running) (hm : s.memoryOk = true)
    (hfree : ∀ a ∈ s.frameAddrs, isReserved a = false) (src : IrqSource) :
    ∃ t, s.take src = .next t ∧
      Enters [s.cpu.sp - 7] (Config.irqEntryCycles - 2) src.vector (src == .nmi) { s with irqHoldoff := false } t := by
  have hstacked : (s.run == .waiting) = false := by rw [hrun]; rfl
  have hlead : Writes [s.cpu.sp - 7] (Config.irqEntryCycles - 10) [] { s with irqHoldoff := false }
      (State.ticks (Config.irqEntryCycles - 10) { s with irqHoldoff := false }) :=
    .ticks (s := { s with irqHoldoff := false }) hm _
  rw [irqEntryCycles_eq]
  refine ⟨_, ?_, .of_writes hlead (State.ticks_cpu _ _) (List.mem_singleton_self _) src.isVector _⟩
  rw [State.take, hstacked]
  exact guardBus_of hfree

/-- Settles O40: from Running an entry that stacks, from Waiting the same time and the vector. -/
theorem interruptEntry : Obligations.InterruptEntry := by
  unfold Obligations.InterruptEntry
  refine ⟨⟨rfl, rfl, rfl, rfl, rfl, rfl⟩, fun s src hm hrun hhalt hreq hfree => ?_, fun s src hw hhalt hreq => ?_⟩
  · obtain ⟨t, htake, hent⟩ := s.take_of_running hrun hm hfree src
    obtain ⟨⟨-, hhold, -⟩, hrunning, hstores, hcpu, htarget, hports, htime⟩ := hent
    refine ⟨t, (step_running_of_request hrun hhalt hreq).trans (congrArg (settle s) htake), hrunning, hstores, hcpu,
      htarget, fun hplain hq => ?_⟩
    have hvs := frameBytes_of_frameAddrs hplain
    have ht : EntryTime _ _ s t := (htime (by simpa using hq) hvs).of_holdoff
    refine ⟨hports hvs, ?_⟩
    have hhold' : t.irqHoldoff = false := hhold
    rw [EntryTime, hrunning, hhold'] at ht
    exact ht
  · refine ⟨_, step_waiting_of_request hw hhalt hreq, ?_⟩
    have htime : TimeOnly (Config.irqEntryCycles - 2) { s with irqHoldoff := false } s.wakeStart := rfl
    have ht := (EntryTime.vectorTo htime src.isVector.quiet src.isVector.quiet1 (src == .nmi)).of_holdoff
    have hr := State.vectorTo_apart src.vector (src == .nmi) s.wakeStart
    have hrunning := State.vectorTo_run src.vector (src == .nmi) s.wakeStart
    have hstart := s.wakeStart_readsOnly
    generalize s.wakeStart.vectorTo src.vector (src == .nmi) = t at ht hr hrunning
    have hhold : t.irqHoldoff = false := hr.control.2.1.trans hstart.control.2.1
    have hext : t.ext = (s.entryTime (src == .nmi)).ext := (hr.ext.trans hstart.ext).trans (by simp [State.entryTime])
    have hram : t.ram = (s.entryTime (src == .nmi)).ram := (hr.ram.trans hstart.ram).trans (by simp [State.entryTime])
    rw [EntryTime, hrunning, hhold, hext, hram] at ht
    exact ht

end Sys2Proof.Machine
end


section
/-! PROOF. RESET and the supplies (70_reset_and_hazards section 1, 60_exceptions section 8), and the timer from one E cycle to the
next (60_exceptions section 5): the statements O45 to O50. -/

namespace Sys2Proof.Machine

/-! ### What time keeps -/

/-- What an E cycle keeps, any number of them keeps. -/
theorem State.ticks_keeps {P : State → Prop} (h : ∀ s, P s → P s.tick) (n : Nat) {s : State} (hs : P s) : P (s.ticks n) := by
  induction n generalizing s with
  | zero => exact hs
  | succ n ih => exact ih (h s hs)

theorem Spends.ticks {n : Nat} {s t : State} (h : Spends n s t) (m : Nat) : Spends (n + m) s (t.ticks m) := by
  induction m with
  | zero => exact h
  | succ m ih =>
    rw [State.ticks_succ]
    exact ih.tickWith false

/-! ### The timer from one E cycle to the next -/

theorem State.tick_timer {s : State} (h : s.resetSeen = false) :
    s.tick.timer = s.timer.step false (s.sample.p2Lines.getLsbD 0) := by
  rw [State.tick, State.tickWith_eq h]

theorem Timer.step_cnt (k : Timer) (p20 : Bool) : (k.step false p20).cnt = k.cnt + 1 := rfl

theorem getLsbD_select5 (mask x y : BitVec 5) {j : Nat} (h : j < 5) :
    (select5 mask x y).getLsbD j = if mask.getLsbD j = true then x.getLsbD j else y.getLsbD j := by
  simp only [select5, BitVec.getLsbD_or, BitVec.getLsbD_and, BitVec.getLsbD_not, h, decide_true, Bool.true_and]
  cases mask.getLsbD j <;> simp

theorem getLsbD_select8 (mask x y : Byte) {j : Nat} (h : j < 8) :
    (select8 mask x y).getLsbD j = if mask.getLsbD j = true then x.getLsbD j else y.getLsbD j := by
  simp only [select8, BitVec.getLsbD_or, BitVec.getLsbD_and, BitVec.getLsbD_not, h, decide_true, Bool.true_and]
  cases mask.getLsbD j <;> simp

/-- The bits of port 2's driven levels, from P24 down to P20. -/
theorem getLsbD_ofBool5 (b4 b3 b2 b1 b0 : Bool) :
    let v := BitVec.ofBool b4 ++ BitVec.ofBool b3 ++ BitVec.ofBool b2 ++ BitVec.ofBool b1 ++ BitVec.ofBool b0
    v.getLsbD 0 = b0 ∧ v.getLsbD 1 = b1 ∧ v.getLsbD 2 = b2 ∧ v.getLsbD 3 = b3 ∧ v.getLsbD 4 = b4 := by
  cases b4 <;> cases b3 <;> cases b2 <;> cases b1 <;> cases b0 <;> decide

theorem State.p2Driven_bits (s : State) :
    s.p2Driven.getLsbD 0 = s.ports.p2out.getLsbD 0 ∧ s.p2Driven.getLsbD 1 = s.timer.olr ∧
      (s.p2Driven.getLsbD 2 = if s.sci.cc1 && !s.sci.cc0 then s.bitClock else s.ports.p2out.getLsbD 2) ∧
      s.p2Driven.getLsbD 3 = s.ports.p2out.getLsbD 3 ∧
      (s.p2Driven.getLsbD 4 = if s.sci.te then s.sci.txLine else s.ports.p2out.getLsbD 4) :=
  getLsbD_ofBool5 _ _ _ _ _

/-- The level on P20 depends on neither timer nor serial interface. -/
theorem State.p20_eq (s : State) :
    s.p2Lines.getLsbD 0 = if s.ports.p2ddr.getLsbD 0 = true then s.ports.p2out.getLsbD 0 else s.pins.p2.getLsbD 0 := by
  obtain ⟨h0, -⟩ := s.p2Driven_bits
  rw [State.p2Lines, getLsbD_select5 _ _ _ (by decide), h0]

theorem toNat_add_one (w : Word) : (w + 1).toNat = (w.toNat + 1) % 65536 := by
  rw [word_add_one, BitVec.toNat_ofNat]

theorem beq_allOnes (w : Word) : (w == 0xFFFF#16) = decide (w.toNat = 65535) := by
  rw [Bool.eq_iff_iff, beq_iff_eq, decide_eq_true_iff, ← BitVec.toNat_inj]
  rfl

/-- Settles O49: field by field, with the level of P20 as the edge detector sees it. -/
theorem timerCycle : Obligations.TimerCycle := by
  unfold Obligations.TimerCycle
  intro s h
  have hp20 : s.tick.p2Lines.getLsbD 0 = s.sample.p2Lines.getLsbD 0 := by
    rw [State.p20_eq, State.p20_eq, State.tick_ports, State.tick, State.tickWith_pins h]
    rfl
  have hcnt : s.tick.timer.cnt = s.timer.cnt + 1 := by rw [State.tick_timer h, Timer.step_cnt]
  dsimp only
  rw [hp20, hcnt, State.tick_timer h]
  generalize s.sample.p2Lines.getLsbD 0 = p20
  obtain ⟨cnt, ocr, icr, icf, ocf, tof, eici, eoci, etoi, iedg, olvl, olr, oci, ici, armTof, armOcf, armIcf, p20prev⟩ :=
    s.timer
  have hhit : (!oci && cnt + 1 == ocr) = true ↔ oci = false ∧ cnt + 1 = ocr := by simp
  have hedge : (p20 != p20prev && p20 == iedg && !ici) = true ↔ p20 ≠ p20prev ∧ p20 = iedg ∧ ici = false := by
    simp [and_assoc]
  refine ⟨toNat_add_one cnt, ?_, ?_, fun h => if_pos (hhit.2 h), fun h => if_neg (mt hhit.1 h), ?_,
    fun h => if_pos (hedge.2 h), fun h => if_neg (mt hedge.1 h), rfl, rfl, rfl, rfl, rfl, rfl, rfl, rfl, rfl, rfl, rfl, rfl⟩
  · show (tof || cnt + 1 == 0xFFFF#16) = true ↔ _
    rw [Bool.or_eq_true, beq_allOnes, decide_eq_true_iff]
  · exact Bool.or_eq_true _ _ ▸ or_congr_right hhit
  · exact Bool.or_eq_true _ _ ▸ or_congr_right hedge

theorem State.ticks_cnt {n : Nat} {s : State} (h : (s.ticks n).resetSeen = false) :
    (s.ticks n).timer.cnt = s.timer.cnt + BitVec.ofNat 16 n := by
  induction n with
  | zero => exact (BitVec.add_zero _).symm
  | succ n ih =>
    rw [State.ticks_succ] at h ⊢
    have hseen := State.resetSeen_of_tickWith h
    rw [State.tick_timer hseen, Timer.step_cnt, ih hseen, BitVec.add_assoc, BitVec.ofNat_add]
    rfl

/-- Settles O50: the counter counts the cycles, and TOF looks at it in each. -/
theorem counterOverflow : Obligations.CounterOverflow := by
  unfold Obligations.CounterOverflow
  intro n s _ hn
  refine ⟨?_, fun hcnt htof => ?_⟩
  · rw [State.ticks_cnt hn, BitVec.toNat_add, BitVec.toNat_ofNat, Nat.add_mod_mod]
  · induction n with
    | zero =>
      intro _
      show s.timer.tof = true ↔ 0 = 65535
      simp [htof]
    | succ n ih =>
      intro hlt
      have hall := State.ticks_cnt hn
      rw [hcnt] at hall
      rw [State.ticks_succ] at hn hall ⊢
      have hseen := State.resetSeen_of_tickWith hn
      have hbefore : (s.ticks n).timer.tof = false := by
        rw [← Bool.not_eq_true, ih hseen (by omega)]
        omega
      have hstep : (s.ticks n).tick.timer.tof = ((s.ticks n).timer.tof || (s.ticks n).tick.timer.cnt == 0xFFFF#16) := by
        rw [State.tick_timer hseen]
        rfl
      rw [hstep, hbefore, Bool.false_or, beq_allOnes, hall, decide_eq_true_iff, BitVec.toNat_add, BitVec.toNat_ofNat]
      simp only [BitVec.ofNat_eq_ofNat, BitVec.toNat_ofNat]
      omega

/-! ### RESET -/

/-- Settles O45: the values of the machine's reset state. -/
theorem resetValues : Obligations.ResetValues := by
  unfold Obligations.ResetValues
  exact ⟨rfl, rfl, rfl, rfl, rfl, rfl, rfl, rfl, rfl, rfl, rfl, rfl, rfl, rfl, rfl, rfl, rfl, rfl, rfl, rfl, rfl, rfl, rfl, rfl,
    rfl⟩

theorem step_of_inReset {s : State} (h : s.run = .inReset) : step s = settle s s.stepInReset := by
  rw [step, State.stepByRunState, h]

/-- At the rising edge of RESET, after how many cycles low and with which mode decides. -/
theorem State.stepInReset_rising {s : State} (hr : s.nextPins.reset = true) (hv : s.nextPins.vcc = true) :
    s.stepInReset =
      if s.resetCycles < 3 then .refused .shortResetPulse
      else if !s.nextPins.p2.getLsbD 1 then .refused .undefinedMode
      else .next (State.release { s.sample with resetSeen := false }) := by
  have hpins : s.sample.pins = s.nextPins := rfl
  rw [State.stepInReset]
  dsimp only
  rw [hpins, hv, hr]
  rfl

/-- Settles O48: by the two stops at the rising edge. -/
theorem resetRefusals : Obligations.ResetRefusals := by
  unfold Obligations.ResetRefusals
  intro s hrun hr hv
  rw [step_of_inReset hrun, State.stepInReset_rising hr hv]
  refine ⟨fun hshort => ?_, fun hlong hmode => ?_⟩
  · rw [if_pos hshort]
    rfl
  · rw [if_neg (by omega), hmode]
    rfl

/-! ### The devices from reset to the first fetch -/

/-- The timer has its reset values but for what time moves. -/
structure Timer.Fresh (k : Timer) : Prop where
  ocr : k.ocr = 0xFFFF
  eici : k.eici = false
  eoci : k.eoci = false
  etoi : k.etoi = false
  iedg : k.iedg = false
  olvl : k.olvl = false

/-- The serial interface has its reset values but for what time moves: the ones counted and the level of P22. -/
def Sci.Fresh (k : Sci) : Prop := ∃ rdr tdr ones p22, k = Sci.afterReset rdr tdr ones p22

/-- Disabled, the serial interface only counts ones. -/
theorem Sci.Fresh.step {k : Sci} (h : k.Fresh) (before after : Word) (between : Option Bool) (p22 : Bool)
    (rx : Option Bool) (c : Nat) : (k.step before after between p22 rx c).Fresh := by
  obtain ⟨rdr, tdr, ones, p, rfl⟩ := h
  have htick : (Sci.afterReset rdr tdr ones p).internalTick before after = Sci.afterReset rdr tdr ones p := by
    unfold Sci.internalTick
    split
    · rfl
    · split <;> rfl
  unfold Sci.step
  rw [show (Sci.afterReset rdr tdr ones p).externalClock = false from rfl, if_neg Bool.false_ne_true, htick]
  cases rx with
  | none => exact ⟨rdr, tdr, ones, p22, rfl⟩
  | some b =>
    show (Sci.countOnes (Sci.afterReset rdr tdr ones p22) b).Fresh
    unfold Sci.countOnes
    split
    · exact ⟨rdr, tdr, 0, p22, rfl⟩
    · split
      · exact ⟨rdr, tdr, _, p22, rfl⟩
      · exact ⟨rdr, tdr, 10, p22, rfl⟩

theorem Sci.trcsr_afterReset (rdr tdr : Byte) (ones : Nat) (p22 : Bool) :
    (Sci.afterReset rdr tdr ones p22).trcsr = 0x20 := by
  show pack8 false false true false false false false false = 0x20
  decide

theorem Timer.tcsr_afterReset (icr : Word) (olr p20 : Bool) : (Timer.afterReset icr olr p20).tcsr = 0x00 := by
  show pack8 false false false false false false false false = 0x00
  decide

/-- Timer and serial interface have their reset values but for what time moves. -/
def State.Fresh (s : State) : Prop := s.timer.Fresh ∧ s.sci.Fresh

theorem State.Fresh.tick {s : State} (h : s.Fresh) : s.tick.Fresh := by
  cases hs : s.resetSeen with
  | true =>
    rw [State.tick, State.tickWith_of_resetSeen hs]
    exact h
  | false =>
    rw [State.tick, State.tickWith_eq hs]
    obtain ⟨⟨h1, h2, h3, h4, h5, h6⟩, hsci⟩ := h
    exact ⟨⟨h1, h2, h3, h4, h5, h6⟩, hsci.step _ _ _ _ _ _⟩

/-- The release is RESET_EXIT_CYCLES of time after fresh devices, the schedule and STBY PWR as they were. -/
theorem State.release_eq (s : State) :
    ∃ u : State, s.release = u.ticks Config.resetExitCycles ∧ u.Fresh ∧ u.timer.cnt = 0 ∧ u.cycles = s.cycles ∧
      u.inputs = s.inputs ∧ u.pins = s.pins ∧ u.ramcr.stbyPwr = s.ramcr.stbyPwr :=
  ⟨_, rfl, ⟨⟨rfl, rfl, rfl, rfl, rfl, rfl⟩, _, _, _, _, rfl⟩, rfl, rfl, rfl, rfl, rfl⟩

theorem State.release_fresh (s : State) : s.release.Fresh := by
  obtain ⟨u, hu, hfresh, -⟩ := s.release_eq
  rw [hu]
  exact State.ticks_keeps (P := State.Fresh) (fun _ => State.Fresh.tick) _ hfresh

/-- What the rising edge latches and sets, and time keeps. -/
theorem State.release_latched (s : State) :
    s.release.run = .running ∧ s.release.pc1 = s.pins.p2.getLsbD 1 ∧ s.release.pc0 = s.pins.p2.getLsbD 0 ∧
      s.release.ramcr.rame = s.pins.standby ∧ s.release.cpu.ccr.i = true ∧
      s.release.cpu.pc = join (s.extRead 0xFFFE) (s.extRead 0xFFFF) ∧ s.release.ports.p1ddr = 0 ∧
      s.release.ports.p2ddr = 0 ∧ s.release.ext = s.ext ∧ s.release.ram = s.ram := by
  unfold State.release
  simp only [State.ticks_run, State.ticks_pc1, State.ticks_pc0, State.ticks_rame, State.ticks_cpu, State.ticks_ports,
    State.ticks_ext, State.ticks_ram, and_self]

/-- Unless RESET falls again, RESET_EXIT_CYCLES pass and the counter counts them. -/
theorem State.release_time {s : State} (h : s.release.resetSeen = false) :
    s.release.timer.cnt = BitVec.ofNat 16 Config.resetExitCycles ∧
      s.release.cycles = s.cycles + Config.resetExitCycles := by
  obtain ⟨u, hu, -, hcnt, hcyc, -⟩ := s.release_eq
  rw [hu] at h ⊢
  obtain ⟨-, hcycles⟩ := (Spends.refl u).ticks Config.resetExitCycles h
  rw [State.ticks_cnt h, hcnt, hcycles, Nat.zero_add, hcyc]
  exact ⟨BitVec.zero_add _, rfl⟩

/-- With the schedule at its end the levels stay, and STBY PWR is not cleared again. -/
theorem State.release_stbyPwr {s : State} (hin : s.inputs = []) (hs : s.ramcr.stbyPwr = true → s.pins.standby = true) :
    s.release.ramcr.stbyPwr = s.ramcr.stbyPwr := by
  have hkeep : ∀ u : State, (u.inputs = [] ∧ u.pins = s.pins ∧ u.ramcr.stbyPwr = s.ramcr.stbyPwr) →
      u.tick.inputs = [] ∧ u.tick.pins = s.pins ∧ u.tick.ramcr.stbyPwr = s.ramcr.stbyPwr := by
    rintro u ⟨h1, h2, h3⟩
    cases hu : u.resetSeen with
    | true =>
      rw [State.tick, State.tickWith_of_resetSeen hu]
      exact ⟨h1, h2, h3⟩
    | false =>
      have hpins : u.nextPins = s.pins := by rw [State.nextPins, State.nextSample, h1]; exact h2
      refine ⟨?_, ?_, ?_⟩
      · rw [State.tick, State.tickWith_eq hu]
        exact congrArg List.tail h1
      · rw [State.tick, State.tickWith_pins hu, hpins]
      · rw [State.tick, State.tickWith_stbyPwr hu, hpins, h3]
        cases hb : s.ramcr.stbyPwr with
        | false => rfl
        | true => exact hs hb
  obtain ⟨u, hu, -, -, -, huin, hupins, hupwr⟩ := s.release_eq
  rw [hu]
  obtain ⟨-, -, hpwr⟩ := State.ticks_keeps
    (P := fun u => u.inputs = [] ∧ u.pins = s.pins ∧ u.ramcr.stbyPwr = s.ramcr.stbyPwr) hkeep
    Config.resetExitCycles ⟨huin.trans hin, hupins, hupwr⟩
  exact hpwr

/-- A read of external memory gives the byte held. -/
theorem State.extRead_of_readable {s : State} {a : Addr} (h : s.readable a = true) (hr : s.region a = .external) :
    s.extRead a = s.peek a := by
  have hvalue := State.valueAt_of_readable h
  rwa [State.valueAt, hr] at hvalue

/-- Settles O46: the rising edge, then time alone. -/
theorem resetRelease : Obligations.ResetRelease := by
  unfold Obligations.ResetRelease
  intro s hrun hcyc hr hv hmode
  let u : State := { s.sample with resetSeen := false }
  have hstep : step s = settle s (.next u.release) := by
    rw [step_of_inReset hrun, State.stepInReset_rising hr hv, if_neg (by omega), hmode]
    rfl
  obtain ⟨h1, h2, h3, h4, h5, hpc, h7, h8, hext, hram⟩ := u.release_latched
  obtain ⟨⟨t1, t2, t3, t4, t5, t6⟩, rdr, tdr, ones, p22, hsci⟩ := u.release_fresh
  have htime (hseen : u.release.resetSeen = false) := State.release_time hseen
  have hstby (hin : s.inputs.length ≤ 1) : u.release.ramcr.stbyPwr = (s.ramcr.stbyPwr && s.nextPins.standby) := by
    refine State.release_stbyPwr (s := u) ?_ fun hb => (Bool.and_eq_true_iff.1 hb).2
    exact List.eq_nil_of_length_eq_zero (by rw [show u.inputs = s.inputs.tail from rfl, List.length_tail]; omega)
  generalize u.release = t at *
  refine ⟨t, hstep, h1, h2.trans hmode, h3, h4, h5, fun hfe hff => ?_, h7, h8, t1, t2, t3, t4, t5, t6,
    hsci ▸ Sci.trcsr_afterReset _ _ _ _, hsci ▸ rfl, hsci ▸ rfl, hsci ▸ rfl, hsci ▸ rfl,
    SameMemory.of_eq hext hram, hstby, htime⟩
  have he : s.region 0xFFFE = .external := rfl
  have hf : s.region 0xFFFF = .external := rfl
  exact hpc.trans (congrArg₂ join (State.extRead_of_readable (s := u) hfe he) (State.extRead_of_readable (s := u) hff hf))

/-! ### RESET and the supplies at the end of a step (R440, R441, R60, R437) -/

/-- A store that lost its supply: the bytes in the range are free, the others as they were. -/
theorem Memory.get_scramble {first last : Nat} (c base n : Nat) {m : Memory} (h : Memory.wfWithin first last m = true)
    (hf : first ≤ base) (hl : base + n ≤ last + 1) (a : Nat) :
    (Memory.scramble c base n m).get a = if base ≤ a ∧ a < base + n then Config.freeCell c a else m.get a := by
  induction n generalizing m with
  | zero => rw [if_neg (by omega)]; rfl
  | succ n ih =>
    rw [Memory.scramble, ih (Memory.wfWithin_set h (by omega) (by omega)) (by omega)]
    by_cases ha : a = base + n
    · subst ha
      rw [if_neg (by omega), if_pos (by omega), Memory.get_set_self h]
    · rw [Memory.get_set_of_ne h ha]
      by_cases hin : base ≤ a ∧ a < base + n
      · rw [if_pos hin, if_pos (by omega)]
      · rw [if_neg hin, if_neg (by omega)]

/-- A byte of internal RAM after the supplies have taken effect. -/
theorem State.powerEffects_ram {s : State} (h : Memory.wfWithin 0x80 0xFF s.ram = true) (a : Nat) :
    s.powerEffects.ram.get a =
      if (0xC0 ≤ a ∧ a ≤ 0xFF ∧ s.powerLost = true) ∨ (0x80 ≤ a ∧ a ≤ 0xBF ∧ s.standbyLost = true) then
        Config.freeCell s.cycles a
      else s.ram.get a := by
  unfold State.powerEffects
  dsimp only
  cases s.powerLost <;> cases s.standbyLost
  · simp
  · rw [if_pos rfl, if_neg Bool.false_ne_true, Memory.get_scramble _ _ _ h (by omega) (by omega)]
    exact if_congr (by simp; omega) rfl rfl
  · rw [if_pos rfl, if_neg Bool.false_ne_true, Memory.get_scramble _ _ _ h (by omega) (by omega)]
    exact if_congr (by simp; omega) rfl rfl
  · have hmain := Memory.wfWithin_scramble s.cycles 0xC0 64 h (by omega) (by omega)
    rw [if_pos rfl, if_pos rfl, Memory.get_scramble _ _ _ hmain (by omega) (by omega),
      Memory.get_scramble _ _ _ h (by omega) (by omega)]
    split
    · rw [if_pos (by simp; omega)]
    · exact if_congr (by simp; omega) rfl rfl

/-- Every operation of a step keeps the memories canonical. -/
theorem Reaches.memoryOk {free : Bool} {s t : State} (h : Reaches free s t) (hs : s.memoryOk = true) : t.memoryOk = true :=
  h.keeps (P := fun u => u.memoryOk = true) hs
    (fun u p hu => (State.memoryOk_congr (u.tickWith_ext p) (u.tickWith_ram p)).trans hu)
    (fun u a hu => (State.memoryOk_congr (u.readEffect_ext a) (u.readEffect_ram a)).trans hu)
    (fun _ a v hu => State.memoryOk_storeAt hu a v) (fun _ _ _ hu => hu) (fun _ _ _ _ hu => hu) (fun _ _ hu => hu)
    (fun _ _ hu => hu)

theorem State.stepByRunState_memoryOk {s t : State} (hs : s.memoryOk = true) (ht : s.stepByRunState = .next t) :
    t.memoryOk = true := by
  by_cases hrun : s.run = .inReset
  · rw [State.stepByRunState, hrun] at ht
    rcases State.stepInReset_cases ht with ⟨n, rfl⟩ | rfl
    · exact hs
    · obtain ⟨-, -, -, -, -, -, -, -, hext, hram⟩ := State.release_latched { s.sample with resetSeen := false }
      exact (State.memoryOk_congr hext hram).trans hs
  · rcases State.stepByRunState_of_ne hrun ht with hr | ⟨u, a, v, hr, rfl⟩
    · exact hr.memoryOk hs
    · exact State.memoryOk_ext_set (hr.memoryOk hs) a v

/-- Before the supplies take effect each byte is the step's or, where RESET has cut it, perhaps the one before. -/
theorem State.cut_memory {s r : State} (hs : s.memoryOk = true) (hr : r.memoryOk = true) (a : Nat) :
    let u := if r.resetSeen = true then State.enterReset s r else r
    (u.ext.get a = r.ext.get a ∨ r.resetSeen = true ∧ u.ext.get a = s.ext.get a) ∧
      (u.ram.get a = r.ram.get a ∨ r.resetSeen = true ∧ u.ram.get a = s.ram.get a) ∧
      Memory.wfWithin 0x80 0xFF u.ram = true ∧ u.cycles = r.cycles ∧ u.powerLost = r.powerLost ∧
      u.standbyLost = r.standbyLost := by
  simp only [State.memoryOk, Memory.wf, Bool.and_eq_true] at hs hr
  obtain ⟨hse, hsr⟩ := hs
  obtain ⟨hre, hrr⟩ := hr
  dsimp only
  split
  · rename_i hseen
    have hin {first last : Nat} {old new : Memory} (ho : Memory.wfWithin first last old = true)
        (hn : Memory.wfWithin first last new = true) : ∀ b ∈ (old ++ new).map (·.1), first ≤ b ∧ b ≤ last := by
      intro b hb
      rw [List.map_append, List.mem_append] at hb
      exact hb.elim (Memory.mem_range ho b) (Memory.mem_range hn b)
    refine ⟨?_, ?_, Memory.wfWithin_either r.cycles hsr hrr, rfl, rfl, rfl⟩
    · exact (Memory.get_eitherOf r.cycles s.ext hre _ (hin hse hre) a).symm.imp_right fun h => ⟨hseen, h⟩
    · exact (Memory.get_eitherOf r.cycles s.ram hrr _ (hin hsr hrr) a).symm.imp_right fun h => ⟨hseen, h⟩
  · exact ⟨.inl rfl, .inl rfl, hrr, rfl, rfl, rfl⟩

/-- Where RESET has cut the step, the devices and STBY PWR. -/
theorem State.enterReset_values (before s : State) :
    let t := (State.enterReset before s).powerEffects
    t.run = .inReset ∧ t.ports.p1ddr = 0 ∧ t.ports.p2ddr = 0 ∧ t.timer.cnt = 0 ∧ t.timer.tcsr = 0x00 ∧
      t.timer.ocr = 0xFFFF ∧ t.sci.trcsr = 0x20 ∧ t.sci.cc1 = false ∧ t.sci.cc0 = false ∧ t.sci.ss1 = false ∧
      t.sci.ss0 = false ∧
      (t.ramcr.stbyPwr = s.ramcr.stbyPwr ∨ t.ramcr.stbyPwr = (before.ramcr.stbyPwr && !s.standbyLost)) := by
  refine ⟨rfl, rfl, rfl, rfl, Timer.tcsr_afterReset _ _ _, rfl, Sci.trcsr_afterReset _ _ _ _, rfl, rfl, rfl, rfl, ?_⟩
  show (if _ then s.ramcr.stbyPwr else before.ramcr.stbyPwr && !s.standbyLost) = _ ∨
    (if _ then s.ramcr.stbyPwr else before.ramcr.stbyPwr && !s.standbyLost) = _
  split
  · exact .inl rfl
  · exact .inr rfl

/-- Settles O47: the cut by RESET, then the supplies. -/
theorem resetCutsTheStep : Obligations.ResetCutsTheStep := by
  unfold Obligations.ResetCutsTheStep
  refine ⟨fun s r hs hstep => ?_, fun s p h => ⟨State.tickWith_stbyPwr h p, State.tickWith_standbyLost h p,
    State.tickWith_powerLost h p, State.tickWith_resetSeen h p⟩⟩
  have hr := State.stepByRunState_memoryOk hs hstep
  refine ⟨r.settled s, by rw [step, hstep, settle_next], fun hseen => ?_, fun a => ?_⟩
  · rw [State.settled, if_pos hseen]
    exact State.enterReset_values s r
  · obtain ⟨hext, hram, hwf, hcyc, hpow, hstby⟩ := State.cut_memory hs hr a.toNat
    have hbyte := State.powerEffects_ram hwf a.toNat
    rw [hcyc, hpow, hstby] at hbyte
    refine ⟨hext, fun hlost => hbyte.trans (if_pos hlost), fun hkept => ?_⟩
    rw [if_neg hkept] at hbyte
    exact hram.imp hbyte.trans fun ⟨hseen, h⟩ => ⟨hseen, hbyte.trans h⟩

end Sys2Proof.Machine
end


section
/-! PROOF. The internal registers as a program accesses them, by LDAA, STAA, LDD and STD direct (10_state section 5,
60_exceptions sections 5 and 6): one rule for a read and one for a write of a register, then the statements O51 to O53. -/

namespace Sys2Proof.Machine

/-! ### One access to a register -/

theorem State.valueAt_of_register {s : State} {a : Addr} (h : s.region a = .register) : s.valueAt a = s.registerValue a := by
  rw [State.valueAt, h]

theorem State.readEffect_of_register {s : State} {a : Addr} (h : s.region a = .register) :
    s.readEffect a = s.registerReadEffect a := by
  rw [State.readEffect, h]

theorem State.storeAt_of_register {s : State} {a : Addr} (h : s.region a = .register) (v : Byte) :
    s.storeAt a v = s.registerWrite a v := by
  rw [State.storeAt, h]

/-- A direct address that the decoder sends to an internal register. -/
structure IsRegister (a : Byte) : Prop where
  region : ∀ s : State, s.region (zext16 a) = .register
  free : isReserved (zext16 a) = false

/-- A read of a register: an E cycle, its value, the effect of the read. -/
theorem IsRegister.busRead {a : Byte} (h : IsRegister a) (s : State) :
    s.busRead (zext16 a) = (s.tick.registerValue (zext16 a), s.tick.registerReadEffect (zext16 a)) :=
  Prod.ext (State.valueAt_of_register (h.region _)) (State.readEffect_of_register (h.region _))

/-- A write of a register. -/
theorem IsRegister.busWrite {a : Byte} (h : IsRegister a) (v : Byte) (s : State) :
    s.busWrite (zext16 a) v = (s.tickWith (zext16 a == 0x0009#16)).registerWrite (zext16 a) v :=
  State.storeAt_of_register (h.region _) v

/-- LDAA of a register: A is its value, the rest the effect of the read. -/
theorem IsRegister.ldaa {a : Byte} (h : IsRegister a) (s : State) :
    ∃ t c, exec (.ldaaDir a) s = .next t ∧ t.cpu.a = s.tick.registerValue (zext16 a) ∧
      t = { s.tick.registerReadEffect (zext16 a) with cpu := c } := by
  have hexec : exec (.ldaaDir a) s = accBinary ldaOp .a (.mem (.dir a)) s := rfl
  have hread : (Src8.mem (.dir a)).read s = _ := h.busRead s
  have hguard := hexec.trans (guardBus_of (t := _) (by simpa [Src8.addrs, Mem.ea] using h.free))
  rw [hread] at hguard
  exact ⟨_, _, hguard, rfl, rfl⟩

/-- STAA of a register: the effect of the write, and the flags. -/
theorem IsRegister.staa {a : Byte} (h : IsRegister a) (s : State) :
    ∃ t c, exec (.staaDir a) s = .next t ∧
      t = { (s.tickWith (zext16 a == 0x0009#16)).registerWrite (zext16 a) s.cpu.a with cpu := c } := by
  have hexec : exec (.staaDir a) s = storeAcc .a (.dir a) s := rfl
  have hwrite : (Mem.dir a).write8 s.cpu.a s = _ := h.busWrite s.cpu.a s
  have hguard := hexec.trans (guardBus_of (t := _) (by simpa [Mem.ea] using h.free))
  rw [show s.acc .a = s.cpu.a from rfl, hwrite] at hguard
  exact ⟨_, _, hguard, rfl⟩

/-- The internal registers, one by one. -/
theorem isRegister_port (a : Byte) (h : a = 0x00 ∨ a = 0x01 ∨ a = 0x02 ∨ a = 0x03 ∨ a = 0x14) : IsRegister a := by
  rcases h with rfl | rfl | rfl | rfl | rfl
  all_goals exact ⟨fun _ => rfl, by decide⟩

theorem isRegister_timer (a : Byte)
    (h : a = 0x08 ∨ a = 0x09 ∨ a = 0x0A ∨ a = 0x0B ∨ a = 0x0C ∨ a = 0x0D ∨ a = 0x0E) : IsRegister a := by
  rcases h with rfl | rfl | rfl | rfl | rfl | rfl | rfl
  all_goals exact ⟨fun _ => rfl, by decide⟩

theorem isRegister_serial (a : Byte) (h : a = 0x10 ∨ a = 0x11 ∨ a = 0x12 ∨ a = 0x13) : IsRegister a := by
  rcases h with rfl | rfl | rfl | rfl
  all_goals exact ⟨fun _ => rfl, by decide⟩

/-! ### The timer's registers -/

theorem join_eq_ofNat (h l : Byte) : join h l = BitVec.ofNat 16 (256 * h.toNat + l.toNat) := by
  rw [← toNat_join, BitVec.ofNat_toNat, BitVec.setWidth_eq]

theorem Timer.writeOcrHigh_eq (k : Timer) (v : Byte) :
    k.writeOcrHigh v =
      { k with
        ocr := BitVec.ofNat 16 (256 * v.toNat + k.ocr.toNat % 256), ocInhibit := true,
        ocf := k.ocf && !k.armOcf, armOcf := false } := by
  rw [Timer.writeOcrHigh, join_eq_ofNat, toNat_lo]
  rfl

theorem Timer.writeOcrLow_eq (k : Timer) (v : Byte) :
    k.writeOcrLow v =
      { k with
        ocr := BitVec.ofNat 16 (256 * (k.ocr.toNat / 256) + v.toNat),
        ocf := k.ocf && !k.armOcf, armOcf := false } := by
  rw [Timer.writeOcrLow, join_eq_ofNat, toNat_hi]
  rfl

/-- Settles O51: each access is an E cycle and the register's own rule. -/
theorem timerRegisters : Obligations.TimerRegisters := by
  unfold Obligations.TimerRegisters
  intro s
  refine ⟨?_, ?_, ?_, ?_, ?_, ?_, ?_, ?_, fun hseen => ?_, ?_, ?_⟩
  · obtain ⟨t, c, hexec, ha, rfl⟩ := (isRegister_timer 0x08 (by simp)).ldaa s
    exact ⟨_, hexec, ha, rfl⟩
  · obtain ⟨t, c, hexec, ha, rfl⟩ := (isRegister_timer 0x09 (by simp)).ldaa s
    exact ⟨_, hexec, (congrArg BitVec.toNat ha).trans (toNat_hi _), rfl⟩
  · obtain ⟨t, c, hexec, ha, rfl⟩ := (isRegister_timer 0x0A (by simp)).ldaa s
    exact ⟨_, hexec, (congrArg BitVec.toNat ha).trans (toNat_lo _), rfl⟩
  · obtain ⟨t, c, hexec, ha, rfl⟩ := (isRegister_timer 0x0B (by simp)).ldaa s
    exact ⟨_, hexec, (congrArg BitVec.toNat ha).trans (toNat_hi _), rfl⟩
  · obtain ⟨t, c, hexec, ha, rfl⟩ := (isRegister_timer 0x0C (by simp)).ldaa s
    exact ⟨_, hexec, (congrArg BitVec.toNat ha).trans (toNat_lo _), rfl⟩
  · obtain ⟨t, c, hexec, ha, rfl⟩ := (isRegister_timer 0x0D (by simp)).ldaa s
    exact ⟨_, hexec, (congrArg BitVec.toNat ha).trans (toNat_hi _), rfl⟩
  · obtain ⟨t, c, hexec, ha, rfl⟩ := (isRegister_timer 0x0E (by simp)).ldaa s
    exact ⟨_, hexec, (congrArg BitVec.toNat ha).trans (toNat_lo _), rfl⟩
  · obtain ⟨t, c, hexec, rfl⟩ := (isRegister_timer 0x08 (by simp)).staa s
    exact ⟨_, hexec, rfl⟩
  · obtain ⟨t, c, hexec, rfl⟩ := (isRegister_timer 0x09 (by simp)).staa s
    have htimer : (s.tickWith true).timer = s.timer.step true (s.sample.p2Lines.getLsbD 0) := by
      rw [State.tickWith_eq hseen]
    refine ⟨_, hexec, ?_⟩
    show (s.tickWith true).timer.cnt = 0xFFF8 ∧ (s.tickWith true).timer.tof = s.timer.tof ∧
      (s.tickWith true).timer.ocr = s.timer.ocr ∧ (s.tickWith true).timer.armTof = s.timer.armTof
    rw [htimer]
    exact ⟨rfl, Bool.or_false _, rfl, rfl⟩
  · obtain ⟨t, c, hexec, rfl⟩ := (isRegister_timer 0x0B (by simp)).staa s
    exact ⟨_, hexec, Timer.writeOcrHigh_eq _ _⟩
  · obtain ⟨t, c, hexec, rfl⟩ := (isRegister_timer 0x0C (by simp)).staa s
    exact ⟨_, hexec, Timer.writeOcrLow_eq _ _⟩

/-- A 16-bit load of D from registers. -/
theorem exec_lddDir {a b : Byte} (ha : IsRegister a) (hb : IsRegister b) (hab : zext16 a + 1 = zext16 b) (s : State) :
    ∃ t c, exec (.lddDir a) s = .next t ∧
      t.cpu.b = (s.tick.registerReadEffect (zext16 a)).tick.registerValue (zext16 b) ∧
      t = { (s.tick.registerReadEffect (zext16 a)).tick.registerReadEffect (zext16 b) with cpu := c } := by
  have hexec : exec (.lddDir a) s = loadReg16 .d (.mem (.dir a)) s := rfl
  have hread : (Src16.mem (.dir a)).read s =
      (join (s.tick.registerValue (zext16 a)) ((s.tick.registerReadEffect (zext16 a)).tick.registerValue (zext16 b)),
        (s.tick.registerReadEffect (zext16 a)).tick.registerReadEffect (zext16 b)) := by
    show (join (s.busRead (zext16 a)).1 ((s.busRead (zext16 a)).2.busRead (zext16 a + 1)).1,
      ((s.busRead (zext16 a)).2.busRead (zext16 a + 1)).2) = _
    rw [hab, ha.busRead, hb.busRead]
  have hguard := hexec.trans (guardBus_of (t := _) (by
    simpa [Src16.addrs, Mem.pair, Mem.ea] using ⟨ha.free, (congrArg isReserved hab).trans hb.free⟩))
  rw [hread] at hguard
  exact ⟨_, _, hguard, lo_join _ _, rfl⟩

/-- A 16-bit store of D to registers. -/
theorem exec_stdDir {a b : Byte} (ha : IsRegister a) (hb : IsRegister b) (hab : zext16 a + 1 = zext16 b) (s : State) :
    ∃ t c, exec (.stdDir a) s = .next t ∧
      t = { (((s.tickWith (zext16 a == 0x0009#16)).registerWrite (zext16 a) (hi s.d)).tickWith
        (zext16 b == 0x0009#16)).registerWrite (zext16 b) (lo s.d) with cpu := c } := by
  have hexec : exec (.stdDir a) s = storeReg16 .d (.dir a) s := rfl
  have hwrite : (Mem.dir a).write16 s.d s = (((s.tickWith (zext16 a == 0x0009#16)).registerWrite (zext16 a)
      (hi s.d)).tickWith (zext16 b == 0x0009#16)).registerWrite (zext16 b) (lo s.d) := by
    show (s.busWrite (zext16 a) (hi s.d)).busWrite (zext16 a + 1) (lo s.d) = _
    rw [hab, ha.busWrite, hb.busWrite]
  have hguard := hexec.trans (guardBus_of (t := _) (by
    simpa [Mem.pair, Mem.ea] using ⟨ha.free, (congrArg isReserved hab).trans hb.free⟩))
  rw [show s.reg16 .d = s.d from rfl, hwrite] at hguard
  exact ⟨_, _, hguard, rfl⟩

/-- Reading TCSR and then, an E cycle later, the counter's high byte clears a TOF seen set in the first read. -/
theorem Timer.readTcsr_readCounterHigh (k : Timer) (p20 : Bool) (h : k.tof = true) :
    ((k.readTcsr.step false p20).readCounterHigh).tof = false := by
  simp [Timer.readTcsr, Timer.step, Timer.readCounterHigh, h]

/-- Between the two halves of a write of OCR no match is looked for, and OCF stays clear once cleared. -/
theorem Timer.writeOcrHigh_writeOcrLow (k : Timer) (p20 : Bool) (v : Word) :
    (((k.writeOcrHigh (hi v)).step false p20).writeOcrLow (lo v)).ocr = v ∧
      (((k.writeOcrHigh (hi v)).step false p20).writeOcrLow (lo v)).ocInhibit = false ∧
      (((k.writeOcrHigh (hi v)).step false p20).writeOcrLow (lo v)).ocf = (k.ocf && !k.armOcf) := by
  refine ⟨?_, rfl, ?_⟩
  · show join (hi (join (hi v) (lo k.ocr))) (lo v) = v
    rw [hi_join, join_hi_lo]
  · simp [Timer.writeOcrHigh, Timer.writeOcrLow, Timer.clearCompare, Timer.step]

/-- Settles O52: two accesses, an E cycle each. -/
theorem timerWordAccesses : Obligations.TimerWordAccesses := by
  unfold Obligations.TimerWordAccesses
  intro s hseen htick
  constructor
  · obtain ⟨t, c, hexec, hb, rfl⟩ :=
      exec_lddDir (isRegister_timer 0x08 (by simp)) (isRegister_timer 0x09 (by simp)) (by decide) s
    let u : State := { s.tick with timer := s.tick.timer.readTcsr }
    have htimer : u.tick.timer = _ := State.tick_timer (s := u) htick
    have hcnt : u.tick.timer.cnt = s.timer.cnt + 1 + 1 := by
      rw [htimer, Timer.step_cnt]
      show s.tick.timer.cnt + 1 = _
      rw [State.tick_timer hseen, Timer.step_cnt]
    refine ⟨_, hexec, fun htof => ?_, ?_⟩
    · show u.tick.timer.readCounterHigh.tof = false
      rw [htimer]
      exact Timer.readTcsr_readCounterHigh _ _ htof
    · rw [hb]
      show (hi u.tick.timer.cnt).toNat = _
      rw [hcnt, toNat_hi, toNat_add_one, toNat_add_one]
      omega
  · obtain ⟨t, c, hexec, rfl⟩ :=
      exec_stdDir (isRegister_timer 0x0B (by simp)) (isRegister_timer 0x0C (by simp)) (by decide) s
    let u : State := { s.tick with timer := s.tick.timer.writeOcrHigh (hi s.d) }
    have htimer : u.tick.timer = _ := State.tick_timer (s := u) htick
    refine ⟨_, hexec, ?_⟩
    show (u.tick.timer.writeOcrLow (lo s.d)).ocr = s.d ∧ (u.tick.timer.writeOcrLow (lo s.d)).ocInhibit = false ∧
      ((u.tick.timer.writeOcrLow (lo s.d)).ocf = true → _)
    rw [htimer]
    obtain ⟨h1, h2, h3⟩ := Timer.writeOcrHigh_writeOcrLow s.tick.timer (u.sample.p2Lines.getLsbD 0) s.d
    refine ⟨h1, h2, fun h => ?_⟩
    have hocf := Bool.and_eq_true_iff.1 (h3.symm.trans h)
    exact ⟨hocf.1, by simpa using hocf.2⟩

/-! ### The serial interface's registers -/

/-- A frame cut in the transmitter or the receiver leaves the bits a program has written. -/
structure Sci.SameWritten (k k' : Sci) : Prop where
  rmcr : k'.cc1 = k.cc1 ∧ k'.cc0 = k.cc0 ∧ k'.ss1 = k.ss1 ∧ k'.ss0 = k.ss0
  trcsr : k'.rie = k.rie ∧ k'.re = k.re ∧ k'.tie = k.tie ∧ k'.te = k.te ∧ k'.wu = k.wu
  arms : k'.armRdrf = k.armRdrf ∧ k'.armOrfe = k.armOrfe ∧ k'.armTdre = k.armTdre
  sending : k'.txPreamble = k.txPreamble ∧ k'.tdre = k.tdre

theorem Sci.SameWritten.refl (k : Sci) : k.SameWritten k :=
  ⟨⟨rfl, rfl, rfl, rfl⟩, ⟨rfl, rfl, rfl, rfl, rfl⟩, ⟨rfl, rfl, rfl⟩, rfl, rfl⟩

theorem Sci.SameWritten.cutTransmit {k k' : Sci} (h : k.SameWritten k') (c : Nat) : k.SameWritten (k'.cutTransmit c) := by
  obtain ⟨h1, h2, h3, h4⟩ := h
  exact ⟨h1, h2, h3, h4⟩

theorem Sci.SameWritten.cutReceive {k k' : Sci} (h : k.SameWritten k') (c : Nat) : k.SameWritten (k'.cutReceive c) := by
  obtain ⟨h1, h2, h3, h4⟩ := h
  exact ⟨h1, h2, h3, h4⟩

/-- The bits of RMCR as a write of `v` stores them. -/
def Sci.withRmcr (k : Sci) (v : Byte) : Sci :=
  { k with cc1 := v.getLsbD 3, cc0 := v.getLsbD 2, ss1 := v.getLsbD 1, ss0 := v.getLsbD 0 }

/-- The bits of TRCSR, and the preamble, as a write of `v` stores them. -/
def Sci.withTrcsr (k : Sci) (v : Byte) : Sci :=
  { k with
    rie := v.getLsbD 4, re := v.getLsbD 3, tie := v.getLsbD 2, te := v.getLsbD 1
    wu := v.getLsbD 0 && decide (k.rxIdleOnes < 10)
    txPreamble := if !k.te && v.getLsbD 1 then 9 else k.txPreamble }

theorem Sci.writeRmcr_written (k : Sci) (c : Nat) (v : Byte) : (k.withRmcr v).SameWritten (k.writeRmcr c v) := by
  have hnew : (k.withRmcr v).SameWritten (k.withRmcr v) := .refl _
  unfold Sci.writeRmcr
  dsimp only
  split
  · have hsame : k.withRmcr v = k := ‹_›
    rw [hsame]
    exact .refl k
  · split
    · split
      · exact hnew.cutTransmit c
      · exact hnew
    · split
      · exact (hnew.cutTransmit c).cutReceive c
      · exact hnew.cutReceive c

theorem Sci.writeTrcsr_written (k : Sci) (c : Nat) (v : Byte) : (k.withTrcsr v).SameWritten (k.writeTrcsr c v) := by
  have hnew : (k.withTrcsr v).SameWritten (k.withTrcsr v) := .refl _
  unfold Sci.writeTrcsr
  dsimp only
  split
  · split
    · exact (hnew.cutTransmit c).cutReceive c
    · exact hnew.cutReceive c
  · split
    · exact hnew.cutTransmit c
    · exact hnew

/-- TE makes P24 an output. -/
theorem Sci.forceDdr_of_te {k : Sci} (h : k.te = true) (d : BitVec 5) : (k.forceDdr d).getLsbD 4 = true := by
  unfold Sci.forceDdr
  rw [h]
  cases k.cc1 <;> cases k.cc0 <;> cases k.re <;> revert d <;> decide

/-- RE makes P23 an input. -/
theorem Sci.forceDdr_of_re {k : Sci} (h : k.re = true) (d : BitVec 5) : (k.forceDdr d).getLsbD 3 = false := by
  unfold Sci.forceDdr
  rw [h]
  cases k.cc1 <;> cases k.cc0 <;> cases k.te <;> revert d <;> decide

/-- CC1 makes P22 the output of the clock or its input, by CC0. -/
theorem Sci.forceDdr_of_cc1 {k : Sci} (h : k.cc1 = true) (d : BitVec 5) : (k.forceDdr d).getLsbD 2 = !k.cc0 := by
  unfold Sci.forceDdr
  rw [h]
  cases k.cc0 <;> cases k.te <;> cases k.re <;> revert d <;> decide

/-- Settles O53: each access is an E cycle and the register's own rule; what a write cuts is none of the bits it stores. -/
theorem serialRegisters : Obligations.SerialRegisters := by
  unfold Obligations.SerialRegisters
  intro s
  refine ⟨?_, ?_, ?_, ?_, ?_⟩
  · obtain ⟨t, c, hexec, ha, rfl⟩ := (isRegister_serial 0x11 (by simp)).ldaa s
    exact ⟨_, hexec, ha, rfl⟩
  · obtain ⟨t, c, hexec, ha, rfl⟩ := (isRegister_serial 0x12 (by simp)).ldaa s
    exact ⟨_, hexec, ha, rfl⟩
  · obtain ⟨t, c, hexec, rfl⟩ := (isRegister_serial 0x13 (by simp)).staa s
    exact ⟨_, hexec, rfl⟩
  · obtain ⟨t, c, hexec, rfl⟩ := (isRegister_serial 0x11 (by simp)).staa s
    refine ⟨_, hexec, ?_⟩
    have hw := Sci.writeTrcsr_written s.tick.sci s.tick.cycles s.cpu.a
    show let k' := s.tick.sci.writeTrcsr s.tick.cycles s.cpu.a
      k'.rie = _ ∧ k'.re = _ ∧ k'.tie = _ ∧ k'.te = _ ∧ k'.wu = _ ∧ (_ → _ → k'.txPreamble = 9) ∧
        (_ → k'.txPreamble = _) ∧ (_ → (k'.forceDdr s.tick.ports.p2ddr).getLsbD 4 = true) ∧
        (_ → (k'.forceDdr s.tick.ports.p2ddr).getLsbD 3 = false) ∧ k'.armRdrf = _ ∧ k'.armOrfe = _ ∧ k'.armTdre = _ ∧
        k'.tdre = _
    generalize s.tick.sci.writeTrcsr s.tick.cycles s.cpu.a = k' at hw
    obtain ⟨-, ⟨h1, h2, h3, h4, h5⟩, ⟨h6, h7, h8⟩, hpre, htdre⟩ := hw
    refine ⟨h1, h2, h3, h4, h5, fun hte hv => hpre.trans (if_pos ?_), fun hno => hpre.trans (if_neg ?_),
      fun hv => Sci.forceDdr_of_te (h4.trans hv) _, fun hv => Sci.forceDdr_of_re (h2.trans hv) _, h6, h7, h8, htdre⟩
    · rw [hte, hv]
      rfl
    · rcases hno with hte | hv
      · simp [hte]
      · rw [hv, Bool.and_false]
        exact Bool.false_ne_true
  · obtain ⟨t, c, hexec, rfl⟩ := (isRegister_serial 0x10 (by simp)).staa s
    refine ⟨_, hexec, ?_⟩
    have hw := Sci.writeRmcr_written s.tick.sci s.tick.cycles s.cpu.a
    show let k' := s.tick.sci.writeRmcr s.tick.cycles s.cpu.a
      k'.cc1 = _ ∧ k'.cc0 = _ ∧ k'.ss1 = _ ∧ k'.ss0 = _ ∧ (_ → (k'.forceDdr s.tick.ports.p2ddr).getLsbD 2 = _) ∧
        k'.tdre = _
    generalize s.tick.sci.writeRmcr s.tick.cycles s.cpu.a = k' at hw
    obtain ⟨⟨h1, h2, h3, h4⟩, -, -, -, htdre⟩ := hw
    refine ⟨h1, h2, h3, h4, fun hv => ?_, htdre⟩
    rw [Sci.forceDdr_of_cc1 (h1.trans hv), h2]
    rfl

end Sys2Proof.Machine
end


section
/-! PROOF. The ports and the RAM control register (10_state section 5, 60_exceptions sections 6 to 8): the levels on the lines and
the decoder's map, then the statements O57 and O58. -/

namespace Sys2Proof.Machine

/-! ### The ports -/

theorem low5_eq_ofNat (v : Byte) : low5 v = BitVec.ofNat 5 v.toNat := by
  revert v
  decide

/-- The internal bit rate clock is high in the second half of a bit time (R412, log 21). -/
theorem Sci.tap_eq (k : Sci) (cnt : Word) : k.tap cnt = decide (k.bitCycles / 2 ≤ cnt.toNat % k.bitCycles) := by
  unfold Sci.tap Sci.bitCycles
  cases k.ss1 <;> cases k.ss0
  all_goals
    dsimp only
    rw [getLsbD_eq_decide]
    exact decide_eq_decide.2 (by omega)

/-- Three flags above five bits. -/
theorem getLsbD_flags5 (b7 b6 b5 : Bool) (w : BitVec 5) :
    let v : Byte := BitVec.ofBool b7 ++ BitVec.ofBool b6 ++ BitVec.ofBool b5 ++ w
    v.getLsbD 7 = b7 ∧ v.getLsbD 6 = b6 ∧ v.getLsbD 5 = b5 ∧ ∀ j < 5, v.getLsbD j = w.getLsbD j := by
  cases b7 <;> cases b6 <;> cases b5 <;> revert w <;> decide

/-- Two flags above six bits. -/
theorem getLsbD_flags6 (b7 b6 : Bool) (w : BitVec 6) :
    let v : Byte := BitVec.ofBool b7 ++ BitVec.ofBool b6 ++ w
    v.getLsbD 7 = b7 ∧ v.getLsbD 6 = b6 := by
  cases b7 <;> cases b6 <;> revert w <;> decide

/-- What a read of P2DR gives, bit by bit. -/
theorem State.p2dr_bits (s : State) :
    s.p2dr.getLsbD 7 = false ∧ s.p2dr.getLsbD 6 = s.pc1 ∧ s.p2dr.getLsbD 5 = s.pc0 ∧
      ∀ j < 5, s.p2dr.getLsbD j =
        if s.ports.p2ddr.getLsbD j = true then s.ports.p2out.getLsbD j else s.pins.p2.getLsbD j := by
  obtain ⟨h7, h6, h5, hlow⟩ := getLsbD_flags5 false s.pc1 s.pc0 (select5 s.ports.p2ddr s.ports.p2out s.pins.p2)
  exact ⟨h7, h6, h5, fun j hj => (hlow j hj).trans (getLsbD_select5 _ _ _ hj)⟩

/-- The level of a line of port 2, by its direction. -/
theorem State.p2Lines_bit (s : State) {j : Nat} (h : j < 5) :
    s.p2Lines.getLsbD j = if s.ports.p2ddr.getLsbD j = true then s.p2Driven.getLsbD j else s.pins.p2.getLsbD j :=
  getLsbD_select5 _ _ _ h

theorem State.p2Lines_output {s : State} {j : Nat} (h : j < 5) (hd : s.ports.p2ddr.getLsbD j = true) :
    s.p2Lines.getLsbD j = s.p2Driven.getLsbD j := by
  rw [s.p2Lines_bit h, if_pos hd]

/-- Settles O57: each access is an E cycle and the register's own rule; each line is what its direction says. -/
theorem portRegisters : Obligations.PortRegisters := by
  unfold Obligations.PortRegisters
  intro s
  obtain ⟨d0, d1, d2, d3, d4⟩ := s.p2Driven_bits
  refine ⟨?_, ?_, ?_, ?_, ?_, ?_, fun j hj => getLsbD_select8 _ _ _ hj, fun j hj hin => ?_, fun hout => ?_, fun hout => ?_,
    fun hout => ?_, fun hout => ?_, fun hout => ?_⟩
  · obtain ⟨t, c, hexec, rfl⟩ := (isRegister_port 0x00 (by simp)).staa s
    exact ⟨_, hexec, congrArg (fun q : Ports => { q with p1ddr := s.cpu.a }) s.tick_ports⟩
  · obtain ⟨t, c, hexec, rfl⟩ := (isRegister_port 0x01 (by simp)).staa s
    refine ⟨_, hexec, ?_, rfl⟩
    rw [← low5_eq_ofNat]
    exact congrArg (fun q : Ports => { q with p2ddr := s.tick.sci.forceDdr (low5 s.cpu.a) }) s.tick_ports
  · obtain ⟨t, c, hexec, rfl⟩ := (isRegister_port 0x02 (by simp)).staa s
    exact ⟨_, hexec, congrArg (fun q : Ports => { q with p1out := s.cpu.a }) s.tick_ports⟩
  · obtain ⟨t, c, hexec, rfl⟩ := (isRegister_port 0x03 (by simp)).staa s
    refine ⟨_, hexec, ?_⟩
    rw [← low5_eq_ofNat]
    exact congrArg (fun q : Ports => { q with p2out := low5 s.cpu.a }) s.tick_ports
  · obtain ⟨t, c, hexec, ha, rfl⟩ := (isRegister_port 0x02 (by simp)).ldaa s
    refine ⟨_, hexec, s.tick_ports, fun j hj => ?_⟩
    rw [ha, ← s.tick_ports]
    exact getLsbD_select8 _ _ _ hj
  · obtain ⟨t, c, hexec, ha, rfl⟩ := (isRegister_port 0x03 (by simp)).ldaa s
    obtain ⟨h7, h6, h5, hlow⟩ := s.tick.p2dr_bits
    refine ⟨_, hexec, s.tick_ports, ?_⟩
    rw [ha, ← s.tick_ports, ← s.tick_pc1, ← s.tick_pc0]
    exact ⟨h7, h6, h5, hlow⟩
  · rw [s.p2Lines_bit hj, hin, if_neg Bool.false_ne_true]
  · rw [State.p2Lines_output (by decide) hout, d0]
  · rw [State.p2Lines_output (by decide) hout, d1]
  · rw [State.p2Lines_output (by decide) hout, d2, State.bitClock, Sci.tap_eq]
    exact if_congr (by simp) rfl rfl
  · rw [State.p2Lines_output (by decide) hout, d3]
  · rw [State.p2Lines_output (by decide) hout, d4]

/-! ### The RAM control register and the map -/

/-- Where the decoder sends an address, region by region (R84). -/
theorem State.region_iff (s : State) (a : Addr) :
    (s.region a = .register ↔ a.toNat ≤ 3 ∨ (8 ≤ a.toNat ∧ a.toNat ≤ 0x0E) ∨ (0x10 ≤ a.toNat ∧ a.toNat ≤ 0x14)) ∧
      (s.region a = .reserved ↔ 0x15 ≤ a.toNat ∧ a.toNat ≤ 0x1F) ∧
      (s.region a = .ram ↔ 0x80 ≤ a.toNat ∧ a.toNat ≤ 0xFF ∧ s.ramMapped = true) := by
  have hres : isReserved a = true ↔ 0x15 ≤ a.toNat ∧ a.toNat ≤ 0x1F := by simp [isReserved]
  unfold State.region
  dsimp only
  split
  · refine ⟨⟨fun _ => ‹_›, fun _ => rfl⟩, ⟨nofun, ?_⟩, ⟨nofun, ?_⟩⟩ <;> omega
  · split
    · refine ⟨⟨nofun, ?_⟩, ⟨nofun, ?_⟩, ⟨nofun, ?_⟩⟩ <;> omega
    · split
      · have hin := hres.1 ‹_›
        refine ⟨⟨nofun, ?_⟩, ⟨fun _ => hin, fun _ => rfl⟩, ⟨nofun, ?_⟩⟩ <;> omega
      · have hout := mt hres.2 ‹_›
        split
        · refine ⟨⟨nofun, ?_⟩, ⟨nofun, fun h => absurd h hout⟩, ⟨fun _ => ‹_›, fun _ => rfl⟩⟩
          omega
        · exact ⟨⟨nofun, fun h => absurd h ‹_›⟩, ⟨nofun, fun h => absurd h hout⟩, ⟨nofun, fun h => absurd h ‹_›⟩⟩

/-- From $80 to $FF there is internal RAM or external memory. -/
theorem State.region_of_ramRange (s : State) {a : Addr} (h1 : 0x80 ≤ a.toNat) (h2 : a.toNat ≤ 0xFF) :
    s.region a = if s.ramMapped = true then .ram else .external := by
  have hres : ¬isReserved a = true := by simp [isReserved]; omega
  unfold State.region
  dsimp only
  rw [if_neg (by omega), if_neg (by omega), if_neg hres]
  exact if_congr ⟨fun h => h.2.2, fun h => ⟨h1, h2, h⟩⟩ rfl rfl

theorem State.ramMapped_iff (s : State) : s.ramMapped = true ↔ s.mode = 2 ∧ s.ramcr.rame = true := by
  simp [State.ramMapped]

theorem State.mode_eq_two (s : State) : s.mode = 2 ↔ s.pc1 = true ∧ s.pc0 = false := by
  unfold State.mode
  cases s.pc1 <;> cases s.pc0 <;> simp

theorem State.ramcrRead_bits (s : State) :
    s.ramcrRead.getLsbD 7 = s.ramcr.stbyPwr ∧ s.ramcrRead.getLsbD 6 = s.ramcr.rame :=
  getLsbD_flags6 _ _ _

/-- Settles O58: each access is an E cycle and the register's own rule; the decoder looks at the mode and RAME. -/
theorem ramControl : Obligations.RamControl := by
  unfold Obligations.RamControl
  intro s
  refine ⟨?_, ?_, fun a => ?_⟩
  · obtain ⟨t, c, hexec, rfl⟩ := (isRegister_port 0x14 (by simp)).staa s
    refine ⟨_, hexec, rfl, SameMemory.tick s, fun a h1 h2 => ?_⟩
    rw [State.region_of_ramRange _ h1 h2]
    refine if_congr ((State.ramMapped_iff _).trans ?_) rfl rfl
    show s.tick.mode = 2 ∧ _ ↔ _
    rw [State.mode, s.tick_pc1, s.tick_pc0]
    rfl
  · obtain ⟨t, c, hexec, ha, rfl⟩ := (isRegister_port 0x14 (by simp)).ldaa s
    obtain ⟨h7, h6⟩ := s.tick.ramcrRead_bits
    refine ⟨_, hexec, ?_, ?_, s.tick_rame⟩
    · rw [ha]
      exact h7
    · rw [ha, ← s.tick_rame]
      exact h6
  · obtain ⟨h1, h2, h3⟩ := s.region_iff a
    refine ⟨h1, h2, h3.trans ?_⟩
    rw [s.ramMapped_iff, s.mode_eq_two, and_assoc]

end Sys2Proof.Machine
end


section
/-! PROOF. The serial interface bit by bit (60_exceptions section 6): the receiver, the counting of ones, the transmitter and the bit
clock, then the statements O54 to O56. -/

namespace Sys2Proof.Machine

/-! ### A frame at the receiver (R417 to R420) -/

/-- The receive shift register takes a bit from above. -/
def shiftIn (r : Byte) (b : Bool) : Byte := BitVec.ofBool b ++ r.extractLsb' 1 7

theorem getLsbD_shiftIn (r : Byte) (b : Bool) :
    (shiftIn r b).getLsbD 7 = b ∧ ∀ j < 7, (shiftIn r b).getLsbD j = r.getLsbD (j + 1) := by
  cases b <;> revert r <;> decide

/-- Eight bits shifted in from bit 0 on are the byte. -/
theorem shiftIn_eight (r d : Byte) :
    [d.getLsbD 0, d.getLsbD 1, d.getLsbD 2, d.getLsbD 3, d.getLsbD 4, d.getLsbD 5, d.getLsbD 6, d.getLsbD 7].foldl
      shiftIn r = d := by
  apply BitVec.eq_of_getLsbD_eq
  intro j hj
  simp only [List.foldl_cons, List.foldl_nil]
  interval_cases j <;> simp only [getLsbD_shiftIn, Nat.reduceLT, Nat.reduceAdd]

/-- From `k0` a frame is being received: `j` bits of it, the start bit among them, with `r` in the shift register; the ones
counted are fewer, so that WU is not touched. -/
def Sci.Receiving (k0 : Sci) (j : Nat) (r : Byte) (k : Sci) : Prop :=
  ∃ o < j, k = { k0 with rxBits := j, rxShift := r, rxIdleOnes := o }

/-- Fewer than nine ones before, a bit is only counted. -/
theorem Sci.countOnes_of_lt {k : Sci} (h : k.rxIdleOnes < 9) (b : Bool) :
    ∃ o ≤ k.rxIdleOnes + 1, k.countOnes b = { k with rxIdleOnes := o } := by
  cases b with
  | false => exact ⟨0, Nat.zero_le _, rfl⟩
  | true => exact ⟨k.rxIdleOnes + 1, le_rfl, by rw [Sci.countOnes, if_neg (by decide), if_pos h]⟩

theorem Sci.Receiving.start {k : Sci} (hre : k.re = true) (hbits : k.rxBits = 0) (c : Nat) :
    k.Receiving 1 k.rxShift (k.lineBit c false) := by
  refine ⟨0, Nat.zero_lt_one, ?_⟩
  rw [Sci.lineBit, Sci.receiveBit, if_neg (by simp [hre]), if_pos hbits]
  rfl

theorem Sci.Receiving.bit {k0 k : Sci} {j : Nat} {r : Byte} (h : k0.Receiving j r k) (hre : k0.re = true) (h0 : 0 < j)
    (h8 : j ≤ 8) (c : Nat) (b : Bool) : k0.Receiving (j + 1) (shiftIn r b) (k.lineBit c b) := by
  obtain ⟨o, ho, rfl⟩ := h
  have hreceive : ({ k0 with rxBits := j, rxShift := r, rxIdleOnes := o } : Sci).receiveBit c b =
      { k0 with rxBits := j + 1, rxShift := shiftIn r b, rxIdleOnes := o } := by
    rw [Sci.receiveBit, if_neg (by simp [hre]), if_neg (by show ¬j = 0; omega), if_pos h8]
    rfl
  obtain ⟨o', ho', hcount⟩ := Sci.countOnes_of_lt
    (k := { k0 with rxBits := j + 1, rxShift := shiftIn r b, rxIdleOnes := o }) (by show o < 9; omega) b
  have hlt : o' < j + 1 := by
    have : o' ≤ o + 1 := ho'
    omega
  exact ⟨o', hlt, by rw [Sci.lineBit, hreceive, hcount]⟩

theorem Sci.Receiving.bits {k0 k : Sci} {j : Nat} {r : Byte} (h : k0.Receiving j r k) (hre : k0.re = true) (h0 : 0 < j)
    (c : Nat) (bs : List Bool) (h9 : j + bs.length ≤ 9) :
    k0.Receiving (j + bs.length) (bs.foldl shiftIn r) (bs.foldl (fun k b => k.lineBit c b) k) := by
  induction bs generalizing j r k with
  | nil => exact h
  | cons b bs ih =>
    rw [List.length_cons] at h9 ⊢
    have hrest := ih (h.bit hre h0 (by omega) c b) (by omega) (by omega)
    rwa [Nat.add_assoc, Nat.add_comm 1] at hrest

/-- What a completed frame leaves alone. -/
theorem Sci.receiveFrame_kept (k : Sci) (c : Nat) (d : Byte) (stop : Bool) :
    (k.receiveFrame c d stop).rxIdleOnes = k.rxIdleOnes ∧ (k.receiveFrame c d stop).rxBits = k.rxBits := by
  unfold Sci.receiveFrame
  split
  · exact ⟨rfl, rfl⟩
  · split
    · split
      · exact ⟨rfl, rfl⟩
      · exact ⟨rfl, rfl⟩
    · split
      · exact ⟨rfl, rfl⟩
      · exact ⟨rfl, rfl⟩

/-- The stop bit completes the frame. -/
theorem Sci.Receiving.stop {k0 k : Sci} {r : Byte} (h : k0.Receiving 9 r k) (hre : k0.re = true) (c : Nat) (b : Bool) :
    ∃ o o', k.lineBit c b =
      { ({ k0 with rxBits := 0, rxShift := r, rxIdleOnes := o } : Sci).receiveFrame c r b with rxIdleOnes := o' } := by
  obtain ⟨o, ho, rfl⟩ := h
  have hreceive : ({ k0 with rxBits := 9, rxShift := r, rxIdleOnes := o } : Sci).receiveBit c b =
      ({ k0 with rxBits := 0, rxShift := r, rxIdleOnes := o } : Sci).receiveFrame c r b := by
    rw [Sci.receiveBit, if_neg (by simp [hre])]
    rfl
  obtain ⟨hones, -⟩ :=
    Sci.receiveFrame_kept { k0 with rxBits := 0, rxShift := r, rxIdleOnes := o } c r b
  obtain ⟨o', -, hcount⟩ := Sci.countOnes_of_lt (hones.trans_lt ho) b
  exact ⟨o, o', by rw [Sci.lineBit, hreceive, hcount]⟩

/-- A whole frame at an enabled receiver between frames. -/
theorem Sci.frame_received {k : Sci} (hre : k.re = true) (hbits : k.rxBits = 0) (c : Nat) (d : Byte) (stop : Bool) :
    ∃ o o', (frameBits d stop).foldl (fun j b => j.lineBit c b) k =
      { ({ k with rxBits := 0, rxShift := d, rxIdleOnes := o } : Sci).receiveFrame c d stop with rxIdleOnes := o' } := by
  have hdata := (Sci.Receiving.start hre hbits c).bits hre Nat.zero_lt_one c
    [d.getLsbD 0, d.getLsbD 1, d.getLsbD 2, d.getLsbD 3, d.getLsbD 4, d.getLsbD 5, d.getLsbD 6, d.getLsbD 7] le_rfl
  rw [shiftIn_eight] at hdata
  exact hdata.stop hre c stop

/-- Settles O54: the frame is shifted in, and the stop bit, RDRF and nothing else decide. -/
theorem receiverFrames : Obligations.ReceiverFrames := by
  unfold Obligations.ReceiverFrames
  intro k c d stop hre hwu hblk hbits
  obtain ⟨o, o', hframe⟩ := Sci.frame_received hre hbits c d stop
  dsimp only
  rw [hframe]
  refine ⟨(Sci.receiveFrame_kept _ c d stop).2, ?_, ?_, ?_⟩
  · rintro rfl hrdrf
    simp [Sci.receiveFrame, hwu, hblk, hrdrf]
  · rintro rfl hrdrf
    simp [Sci.receiveFrame, hwu, hblk, hrdrf]
  · rintro rfl hrdrf
    simp [Sci.receiveFrame, hwu, hblk, hrdrf]

/-! ### Wake-up (R418) -/

/-- Taking a bit into a frame counts no ones and leaves WU. -/
theorem Sci.receiveBit_ones (k : Sci) (c : Nat) (b : Bool) : (k.receiveBit c b).rxIdleOnes = k.rxIdleOnes := by
  unfold Sci.receiveBit
  split
  · rfl
  · split
    · rfl
    · split
      · rfl
      · exact (Sci.receiveFrame_kept _ _ _ _).1

/-- `n` ones on the line are counted, up to nine. -/
theorem Sci.ones_counted (c n : Nat) (hn : n ≤ 9) (k : Sci) :
    n ≤ ((List.replicate n true).foldl (fun j b => j.lineBit c b) k).rxIdleOnes := by
  induction n with
  | zero => exact Nat.zero_le _
  | succ n ih =>
    rw [List.replicate_succ', List.foldl_append]
    have hbefore := ih (by omega)
    generalize (List.replicate n true).foldl (fun j b => j.lineBit c b) k = j at hbefore
    show n + 1 ≤ (j.lineBit c true).rxIdleOnes
    rw [← j.receiveBit_ones c true] at hbefore
    rw [Sci.lineBit, Sci.countOnes, if_neg (by decide)]
    split
    · exact Nat.succ_le_succ hbefore
    · show n + 1 ≤ 10
      omega

/-- While WU is set nothing of a frame is kept: RDR, RDRF and ORFE are those of `k0`, and at most `n` ones have been
counted. -/
structure Sci.Asleep (k0 : Sci) (n : Nat) (k : Sci) : Prop where
  rdr : k.rdr = k0.rdr
  rdrf : k.rdrf = k0.rdrf
  orfe : k.orfe = k0.orfe
  wu : k.wu = true
  ones : k.rxIdleOnes ≤ n

theorem Sci.Asleep.receiveBit {k0 k : Sci} {n : Nat} (h : k0.Asleep n k) (c : Nat) (b : Bool) :
    k0.Asleep n (k.receiveBit c b) := by
  obtain ⟨h1, h2, h3, h4, h5⟩ := h
  unfold Sci.receiveBit
  split
  · exact ⟨h1, h2, h3, h4, h5⟩
  · split
    · exact ⟨h1, h2, h3, h4, h5⟩
    · split
      · exact ⟨h1, h2, h3, h4, h5⟩
      · rw [Sci.receiveFrame, if_pos (by simp [h4])]
        exact ⟨h1, h2, h3, h4, h5⟩

theorem Sci.Asleep.start {k0 k : Sci} {n : Nat} (h : k0.Asleep n k) (c : Nat) : k0.Asleep 0 (k.lineBit c false) := by
  obtain ⟨h1, h2, h3, h4, -⟩ := h.receiveBit c false
  exact ⟨h1, h2, h3, h4, le_rfl⟩

theorem Sci.Asleep.bits {k0 k : Sci} {n : Nat} (h : k0.Asleep n k) (c : Nat) (bs : List Bool) (h9 : n + bs.length ≤ 9) :
    k0.Asleep (n + bs.length) (bs.foldl (fun k b => k.lineBit c b) k) := by
  induction bs generalizing n k with
  | nil => exact h
  | cons b bs ih =>
    rw [List.length_cons] at h9 ⊢
    obtain ⟨h1, h2, h3, h4, h5⟩ := h.receiveBit c b
    obtain ⟨o, ho, hcount⟩ := Sci.countOnes_of_lt (k := k.receiveBit c b) (by omega) b
    have hbit : k0.Asleep (n + 1) (k.lineBit c b) := by
      rw [Sci.lineBit, hcount]
      exact ⟨h1, h2, h3, h4, by show o ≤ n + 1; omega⟩
    have hrest := ih hbit (by omega)
    rwa [Nat.add_assoc, Nat.add_comm 1] at hrest

/-- Settles O55: the tenth one in a row clears WU; after a start bit a frame has nine bits, too few. -/
theorem wakeUp : Obligations.WakeUp := by
  unfold Obligations.WakeUp
  refine ⟨fun k c => ?_, fun k c d stop hwu _ => ?_⟩
  · have hnine := Sci.ones_counted c 9 le_rfl k
    rw [show 10 = 9 + 1 from rfl, List.replicate_succ', List.foldl_append]
    generalize (List.replicate 9 true).foldl (fun j b => j.lineBit c b) k = j at hnine
    show (j.lineBit c true).wu = false
    rw [← j.receiveBit_ones c true] at hnine
    rw [Sci.lineBit, Sci.countOnes, if_neg (by decide), if_neg (by omega)]
  · have hstart : k.Asleep k.rxIdleOnes k := ⟨rfl, rfl, rfl, hwu, le_rfl⟩
    have hframe : k.Asleep 9 ((frameBits d stop).foldl (fun j b => j.lineBit c b) k) := (hstart.start c).bits c
      [d.getLsbD 0, d.getLsbD 1, d.getLsbD 2, d.getLsbD 3, d.getLsbD 4, d.getLsbD 5, d.getLsbD 6, d.getLsbD 7, stop] le_rfl
    exact ⟨hframe.rdr, hframe.rdrf, hframe.orfe, hframe.wu⟩

/-! ### The transmitter (R413 to R415) -/

theorem Sci.transmitEdge_of_sending {k : Sci} (hte : k.te = true) (h : 1 < k.txBits) :
    k.transmitEdge =
      { k.sendBit (k.txShift.getLsbD 0) with
        txShift := BitVec.ofBool true ++ k.txShift.extractLsb' 1 8, txBits := k.txBits - 1 } := by
  rw [Sci.transmitEdge, if_neg (by simp [hte]), if_pos h]

theorem Sci.transmitEdge_of_preamble {k : Sci} (hte : k.te = true) (h : k.txBits ≤ 1) (hp : 0 < k.txPreamble) :
    k.transmitEdge = { k.sendBit true with txBits := 0, txPreamble := k.txPreamble - 1 } := by
  rw [Sci.transmitEdge, if_neg (by simp [hte]), if_neg (by omega), if_pos hp]

theorem Sci.transmitEdge_of_start {k : Sci} (hte : k.te = true) (h : k.txBits ≤ 1) (hp : k.txPreamble = 0)
    (hd : k.tdre = false) :
    k.transmitEdge = { k.sendBit false with txShift := BitVec.ofBool true ++ k.tdr, txBits := 10, tdre := true } := by
  rw [Sci.transmitEdge, if_neg (by simp [hte]), if_neg (by omega), if_neg (by omega), hd]
  rfl

theorem Sci.transmitEdge_of_idle {k : Sci} (hte : k.te = true) (h : k.txBits ≤ 1) (hp : k.txPreamble = 0)
    (hd : k.tdre = true) : k.transmitEdge = { k.sendBit true with txBits := 0 } := by
  rw [Sci.transmitEdge, if_neg (by simp [hte]), if_neg (by omega), if_neg (by omega), hd]
  rfl

/-- The transmit shift register gives its bit 0 and takes a one from above. -/
theorem getLsbD_shiftOut (r : BitVec 9) (j : Nat) :
    (BitVec.ofBool true ++ r.extractLsb' 1 8 : BitVec 9).getLsbD j =
      if j < 8 then r.getLsbD (j + 1) else decide (j = 8) := by
  rw [BitVec.getLsbD_append, BitVec.getLsbD_extractLsb', Nat.add_comm 1 j]
  split
  · rw [decide_eq_true ‹_›, Bool.true_and]
  · rw [BitVec.getLsbD_ofBool, Bool.and_true]
    exact decide_eq_decide.2 (by omega)

theorem Sci.edges_succ (n : Nat) (k : Sci) :
    Sci.edges (n + 1) k = (k.transmitEdge.txBit :: (Sci.edges n k.transmitEdge).1, (Sci.edges n k.transmitEdge).2) := rfl

/-- The rest of a frame: the bits of the shift register in order. -/
theorem Sci.edges_of_sending (m : Nat) {k : Sci} (hte : k.te = true) (h : k.txBits = m + 1) (hm : m ≤ 9) :
    (Sci.edges m k).1 = (List.range m).map (fun j => k.txShift.getLsbD j) ∧ (Sci.edges m k).2.tdre = k.tdre ∧
      (Sci.edges m k).2.txBits = 1 := by
  induction m generalizing k with
  | zero => exact ⟨rfl, rfl, h⟩
  | succ m ih =>
    have hedge := Sci.transmitEdge_of_sending hte (by omega)
    obtain ⟨h1, h2, h3⟩ := ih (k := k.transmitEdge) (by rw [hedge]; exact hte)
      (by rw [hedge]; show k.txBits - 1 = _; omega) (by omega)
    rw [Sci.edges_succ]
    refine ⟨?_, h2.trans (by rw [hedge]; rfl), h3⟩
    rw [h1, List.range_succ_eq_map, List.map_cons, List.map_map, hedge]
    refine congrArg (k.txShift.getLsbD 0 :: ·) (List.map_congr_left fun j hj => ?_)
    have hlt := List.mem_range.1 hj
    exact (getLsbD_shiftOut _ _).trans (if_pos (by omega))

/-- A byte's frame, from its start bit on: ten bit times. -/
theorem Sci.edges_frame {k : Sci} (hte : k.te = true) (hbits : k.txBits ≤ 1) (hpre : k.txPreamble = 0)
    (htdre : k.tdre = false) :
    (Sci.edges 10 k).1 = frameBits k.tdr true ∧ (Sci.edges 10 k).2.tdre = true ∧ (Sci.edges 10 k).2.txBits = 1 := by
  have hedge := Sci.transmitEdge_of_start hte hbits hpre htdre
  obtain ⟨h1, h2, h3⟩ := Sci.edges_of_sending 9 (k := k.transmitEdge) (by rw [hedge]; exact hte) (by rw [hedge]) le_rfl
  rw [Sci.edges_succ]
  refine ⟨?_, h2.trans (by rw [hedge]), h3⟩
  have hshift : ∀ j < 9, (BitVec.ofBool true ++ k.tdr : BitVec 9).getLsbD j = if j < 8 then k.tdr.getLsbD j else true := by
    intro j hj
    rw [BitVec.getLsbD_append]
    split
    · rfl
    · rw [BitVec.getLsbD_ofBool, Bool.and_true]
      exact decide_eq_true (by omega)
  rw [h1, hedge]
  refine congrArg (false :: ·) ((List.map_congr_left fun j hj => hshift j (List.mem_range.1 hj)).trans ?_)
  rfl

/-- Each bit time of the preamble is a one. -/
theorem Sci.edges_preamble (n : Nat) {k : Sci} (hte : k.te = true) (hbits : k.txBits ≤ 1) (hn : n ≤ k.txPreamble) :
    (Sci.edges n k).1 = List.replicate n true ∧ (Sci.edges n k).2.txPreamble = k.txPreamble - n ∧
      (Sci.edges n k).2.tdre = k.tdre := by
  induction n generalizing k with
  | zero => exact ⟨rfl, rfl, rfl⟩
  | succ n ih =>
    have hedge := Sci.transmitEdge_of_preamble hte hbits (by omega)
    have hleft : k.transmitEdge.txPreamble = k.txPreamble - 1 := by rw [hedge]
    obtain ⟨h1, h2, h3⟩ := ih (k := k.transmitEdge) (by rw [hedge]; exact hte) (by rw [hedge]; exact Nat.zero_le 1)
      (by omega)
    rw [Sci.edges_succ]
    refine ⟨?_, by rw [h2, hleft]; omega, h3.trans (by rw [hedge]; rfl)⟩
    rw [h1, hedge, List.replicate_succ]
    rfl

/-- With nothing to send each bit time is a one, in the preamble and after it. -/
theorem Sci.edges_idle (n : Nat) {k : Sci} (hte : k.te = true) (hbits : k.txBits ≤ 1) (htdre : k.tdre = true) :
    (Sci.edges n k).1 = List.replicate n true ∧ (Sci.edges n k).2.tdre = true := by
  induction n generalizing k with
  | zero => exact ⟨rfl, htdre⟩
  | succ n ih =>
    have hedge : k.transmitEdge.txBit = true ∧ k.transmitEdge.te = true ∧ k.transmitEdge.txBits = 0 ∧
        k.transmitEdge.tdre = true := by
      rcases Nat.eq_zero_or_pos k.txPreamble with hp | hp
      · rw [Sci.transmitEdge_of_idle hte hbits hp htdre]
        exact ⟨rfl, hte, rfl, htdre⟩
      · rw [Sci.transmitEdge_of_preamble hte hbits hp]
        exact ⟨rfl, hte, rfl, htdre⟩
    obtain ⟨hone, hte', hbits', htdre'⟩ := hedge
    obtain ⟨h1, h2⟩ := ih hte' (by omega) htdre'
    rw [Sci.edges_succ, h1, hone]
    exact ⟨rfl, h2⟩

/-! ### The bit clock (R411) -/

/-- A tap of the counter falls where the counter reaches a multiple of the bit time, and rises half a bit time before. -/
theorem Sci.tap_changes (k : Sci) (cnt : Word) :
    ((k.tap cnt && !k.tap (cnt + 1)) = true ↔ (cnt.toNat + 1) % k.bitCycles = 0) ∧
      ((!k.tap cnt && k.tap (cnt + 1)) = true ↔ (cnt.toNat + 1) % k.bitCycles = k.bitCycles / 2) := by
  rw [Sci.tap_eq, Sci.tap_eq, toNat_add_one]
  unfold Sci.bitCycles
  cases k.ss1 <;> cases k.ss0
  all_goals
    simp only [Bool.and_eq_true, decide_eq_true_eq, Bool.not_eq_true', decide_eq_false_iff_not]
    omega

theorem Sci.internalTick_eq (k : Sci) (cnt : Word) :
    k.internalTick cnt (cnt + 1) =
      if (cnt.toNat + 1) % k.bitCycles = 0 then k.transmitEdge
      else if (cnt.toNat + 1) % k.bitCycles = k.bitCycles / 2 then k.halfBit
      else k := by
  obtain ⟨hfall, hrise⟩ := k.tap_changes cnt
  exact if_congr hfall rfl (if_congr hrise rfl rfl)

/-- P22 rises in a cycle where a low level is followed by a high one. -/
theorem Sci.p22Rises_iff (k : Sci) (between : Option Bool) (p22 : Bool) :
    k.p22Rises between p22 = true ↔ [false, true] <:+: k.p22prev :: (between.toList ++ [p22]) := by
  unfold Sci.p22Rises
  generalize k.p22prev = before
  cases between with
  | none => cases before <;> cases p22 <;> decide
  | some b => cases before <;> cases b <;> cases p22 <;> decide

/-- An E cycle without the end of a receive bit time is the bit clock's. -/
theorem State.tick_sci {s : State} (h : s.resetSeen = false) (hrx : s.nextRx = none) :
    s.tick.sci =
      { (if s.sci.externalClock then s.sci.externalTick s.nextP22Between (s.sample.p2Lines.getLsbD 2)
          else s.sci.internalTick s.timer.cnt (s.timer.cnt + 1)) with p22prev := s.sample.p2Lines.getLsbD 2 } := by
  rw [State.tick, State.tickWith_eq h, hrx]
  rfl

/-- Settles O56: the transmitter by its edges, the edges by the bit clock. -/
theorem transmitterFrames : Obligations.TransmitterFrames := by
  unfold Obligations.TransmitterFrames
  refine ⟨fun k => Sci.edges_frame, fun n k => Sci.edges_preamble n, fun n k => Sci.edges_idle n, fun k hte => ?_,
    fun s hseen hrx => ?_⟩
  · rw [Sci.transmitEdge, hte]
    rfl
  · have hsci := State.tick_sci hseen hrx
    have hrises := s.sci.p22Rises_iff s.nextP22Between (s.sample.p2Lines.getLsbD 2)
    dsimp only
    refine ⟨fun hclock => ?_, fun hclock hlevels => ?_, fun hclock hlevels hcount => ?_, fun hclock hlevels hcount => ?_⟩
    · rw [hsci, hclock, if_neg Bool.false_ne_true, Sci.internalTick_eq]
    · rw [hsci, hclock, if_pos rfl, Sci.externalTick, if_neg (mt hrises.1 hlevels)]
    · rw [hsci, hclock, if_pos rfl, Sci.externalTick, if_pos (hrises.2 hlevels), if_neg (by omega)]
    · rw [hsci, hclock, if_pos rfl, Sci.externalTick, if_pos (hrises.2 hlevels), if_pos (by omega)]

end Sys2Proof.Machine
end
